-- ==== Sys2Proof/Word.lean ====
section
/-! DEFINITION. The word types of ZWDEC (`spec/00_scope.md` rule R11; widths from `spec/10_state.md`). -/

namespace Sys2Proof

/-- A data byte of a word, and the register `BYTE_HI` (R24). -/
abbrev Byte := BitVec 8

/-- A word of the frame, `ddddddddp`, and the shift register `SH` (R23, R83). -/
abbrev Word9 := BitVec 9

/-- The raw measurement (R25, R85). -/
abbrev Raw16 := BitVec 16

/-- The eighteen data bits of a frame in arrival order, the first the most significant (R84). -/
abbrev Frame18 := BitVec 18

/-- The selector word `sel = {rst, PHASE[2:0], start, zw_in}` of the operation table (R92). -/
abbrev Sel := BitVec 6

/-- A three-bit code: of `STATUS` (R87), of `PHASE` (R88), of `MODEL` (R89). -/
abbrev Code3 := BitVec 3

end Sys2Proof
end

