-- ==== Sys2Proof/Config.lean ====
section
/-! DEFINITION. The configuration record `CFG` (`spec/00_scope.md` rules R6 to R10, `spec/43_temp_convert.md`
rule R176). It is data that every statement quantifies over: an OPEN parameter is a field, never a number. -/

namespace Sys2Proof

/-- The sensor models (R7), in the order of their codes (R89). -/
inductive Model where
  | m306 | m206 | m316 | m506 | m516
  deriving DecidableEq, Repr

/-- The SensorProfile: the constants of one model (R7). A ratio is a numerator and a denominator (R14). -/
structure Profile where
  /-- `THR = thrNum / thrDen`, the ratio of `T` that separates a 0 from a 1. -/
  thrNum : Nat
  thrDen : Nat
  /-- `UP = upNum / upDen`, the upper sanity bound of a high pulse as a ratio of `T`. -/
  upNum : Nat
  upDen : Nat
  /-- Low bits of RAW that carry the measurement; descriptive only (R85). -/
  payloadBits : Nat
  /-- `scale = scaleNum / scaleDen`, degrees Celsius for one raw count. -/
  scaleNum : Nat
  scaleDen : Nat
  /-- `offset`, degrees Celsius. -/
  offset : Int
  /-- The inclusive valid range, degrees Celsius. -/
  tmin : Int
  tmax : Int
  deriving DecidableEq, Repr

/-- The profile table keyed by model (R176). A row that is absent is one whose constants nobody has given. -/
structure ProfileTable where
  p306 : Option Profile
  p206 : Option Profile
  p316 : Option Profile
  p506 : Option Profile
  p516 : Option Profile
  deriving DecidableEq, Repr

/-- The configuration record `CFG` (R7, R8). `TICK_PERIOD` is left out: no rule depends on it (R8; log 15). -/
structure Cfg where
  model : Model
  profile : Profile
  powerCtrl : Bool
  settleTicks : Nat
  strobeWaitMax : Nat
  strobeMax : Nat
  edgeWaitMax : Nat
  cntW : Nat
  tempW : Nat
  deriving DecidableEq, Repr

/-- `DATA_BITS` (R6). -/
def dataBits : Nat := 8

/-- `BITS_PER_WORD` (R6): eight data bits and one parity bit. -/
def bitsPerWord : Nat := 9

/-- `WORDS_PER_FRAME` (R6). -/
def wordsPerFrame : Nat := 2

/-- `CELLS_PER_FRAME` (R6): the data cells after the one start cell. -/
def cellsPerFrame : Nat := wordsPerFrame * bitsPerWord

/-- The profile of `REF` (R10): the constants R176 gives for model 306, with `THR` and `UP` as R10 chooses them. -/
def Profile.ref306 : Profile where
  thrNum := 3
  thrDen := 2
  upNum := 3
  upDen := 1
  payloadBits := 11
  scaleNum := 200
  scaleDen := 2047
  offset := 50
  tmin := -50
  tmax := 150

/-- The reference configuration `REF` (R10). DESIGN CHOICE (log 1): it is what `State.reset` holds. Unsafe if a
statement were to rest on its numbers; none does. -/
def Cfg.ref : Cfg where
  model := .m306
  profile := .ref306
  powerCtrl := false
  settleTicks := 4
  strobeWaitMax := 100
  strobeMax := 40
  edgeWaitMax := 40
  cntW := 8
  tempW := 25

/-- The profile table of `State.reset`: the row of 306 as in `REF`, the OPEN rows of R176 absent.
DESIGN CHOICE (log 2). -/
def ProfileTable.ref : ProfileTable where
  p306 := some .ref306
  p206 := none
  p316 := none
  p506 := none
  p516 := none

end Sys2Proof
end

