-- ==== Sys2Proof/Machine/State.lean ====
section
/-! DEFINITION. The state of ZWDEC: the eleven registers of `spec/10_state.md` rule R40, and beside them what the
spec hands its step function as arguments (the configuration, the input trace). Plain data throughout. -/

namespace Sys2Proof.Machine

/-- The phases of the sequencer (R27). Code 7 is not among them: no rule produces it (R27, R88; log 9). -/
inductive Phase where
  | idle | settle | waitStrobe | measStrobe | startHi | cellLo | cellHi
  deriving DecidableEq, Repr

/-- The outcomes recorded in `STATUS` (R36, R87). Code 7 is not among them (R87; log 9). -/
inductive Status where
  | none | ok | timeout | invalidStrobeLength | invalidBitTiming | parityError | tempOutOfRange
  deriving DecidableEq, Repr

/-- The symbols of a data cell (R82). -/
inductive Symbol where
  | zero | one | invalid
  deriving DecidableEq, Repr

/-- The inputs sampled at one tick (R30, R61). -/
structure Input where
  rst : Bool
  start : Bool
  zw : Bool
  deriving DecidableEq, Repr

/-- What a pure function returned when its row was executed by itself (R131, R152; log 4). -/
inductive PureResult where
  | nothing
  | symbol (y : Symbol)
  | parity (ok : Bool)
  deriving DecidableEq, Repr

/-- The machine. The first eleven fields are the registers of R40; the last four are the model's own. -/
structure State where
  /-- `PHASE` (R27). -/
  phase : Phase
  /-- `NBITS` (R28). -/
  nbits : Nat
  /-- `NWORD` (R29). -/
  nword : Fin 2
  /-- `CNT` (R21; unbounded, log 11). -/
  cnt : Nat
  /-- `T` (R22). -/
  t : Nat
  /-- `SH` (R23). -/
  sh : Word9
  /-- `BYTE_HI` (R24). -/
  byteHi : Byte
  /-- `RAW` (R25). -/
  raw : Raw16
  /-- `TEMP_NUM` (R26; unbounded, log 11). -/
  tempNum : Int
  /-- `STATUS` (R36). -/
  status : Status
  /-- `PWR` (R35). -/
  pwr : Bool
  /-- `CFG` (R7, R8, R37): no tick changes it. -/
  cfg : Cfg
  /-- The profile table (R176): no tick changes it. -/
  profiles : ProfileTable
  /-- The inputs of the coming ticks, the next one first (R30, R95; log 3). -/
  inputs : List Input
  /-- The value last returned by a pure function executed by itself (log 4). No tick reads it. -/
  result : PureResult
  deriving DecidableEq, Repr

/-- The spec has no fault: an exception is a next state (R204), and the step is total (R30, R235). -/
inductive Fault where
  deriving DecidableEq, Repr

/-- Why the model does not run: in every case the spec says 'refuse' or 'reserved'. -/
inductive Refusal where
  /-- Raised by `exec` for an operation without a meaning. Safe: nothing is claimed of it. No arm raises it. -/
  | notModelled (mnemonic : String)
  /-- Raised by `step` if `sel` selects nothing. Safe. It needs `PHASE` code 7, which no state has (R27). -/
  | noOperation
  /-- Raised by `step` and by the MODEL rows: the configuration breaks R9 (U7). Safe: such a machine does not exist. -/
  | invalidConfiguration
  /-- Raised by the MODEL rows during a read (R245, U6). Safe: such a run is not a run of this hardware. -/
  | configChangedDuringRead
  /-- Raised by the MODEL rows for a model whose constants nobody gave (U4). Safe. -/
  | modelWithoutConstants
  /-- Raised by MODEL codes 5 to 7 (R89, U8). Safe: the spec refuses the configuration. -/
  | reservedModelCode
  /-- Raised by STATUS code 7 (R87, U9). Safe: no rule produces it. -/
  | reservedStatusCode
  /-- Raised by PHASE code 7 (R27, R88, U9). Safe: no rule produces it. -/
  | reservedPhaseCode
  deriving DecidableEq, Repr

/-- The reset state (R41) of a machine constructed with `c` and `p`, before which lie the inputs `ins`. -/
def State.resetWith (c : Cfg) (p : ProfileTable) (ins : List Input) : State where
  phase := .idle
  nbits := 0
  nword := 0
  cnt := 0
  t := 0
  sh := 0
  byteHi := 0
  raw := 0
  tempNum := 0
  status := .none
  pwr := false
  cfg := c
  profiles := p
  inputs := ins
  result := .nothing

/-- The machine right after reset (R41, R231). The configuration is `REF` (log 1, 2), no input is placed (log 3). -/
def State.reset : State := State.resetWith .ref .ref []

end Sys2Proof.Machine
end

