-- ==== Sys2Proof/Syntax.lean ====
section
/-! DEFINITION. The operations of ZWDEC: one constructor for each row of `spec/opcode_table.json`
(`spec/30_encoding.md` rules R80 to R92). -/

namespace Sys2Proof

/-- The five exceptions (`60_exceptions.md` R200). -/
inductive Exc where
  | timeout | invalidStrobeLength | invalidBitTiming | parityError | temperatureOutOfRange
  deriving DecidableEq, Repr

/-- Every row of the operation table. A tick operation's operands are the bits of `sel` its row leaves free (R92);
a sub-operation's are its arguments; a wire cell's are the measured durations of its two runs (R96). -/
inductive Instr where
  -- the nine tick operations
  | reset (phase : Code3) (start zw : Bool)
  | nop (zw : Bool)
  | read (zw : Bool)
  | settle (start zw : Bool)
  | waitstb (start zw : Bool)
  | measstb (start zw : Bool)
  | starthi (start zw : Bool)
  | celllo (start zw : Bool)
  | cellhi (start zw : Bool)
  -- the eleven sub-operations
  | pwron
  | pwroff
  | classify
  | shift (bit : Bool)
  | wordchk (w : Word9)
  | parityOk (w : Word9)
  | frame (data : Byte)
  | convert (r : Raw16)
  | rangechk (tn : Int)
  | finish
  | abort (e : Exc)
  -- the wire cells
  | start (t g : Nat)
  | sym0 (lo hi : Nat)
  | sym1 (lo hi : Nat)
  | symx (lo hi : Nat)
  -- the word, the frame and the raw value
  | word (w : Word9)
  | frameBits (bits : Frame18)
  | raw (r : Raw16)
  -- the codes of STATUS
  | statusNone
  | statusOk
  | statusTimeout
  | statusInvalidStrobeLength
  | statusInvalidBitTiming
  | statusParityError
  | statusTempOutOfRange
  | statusReserved
  -- the codes of PHASE
  | phaseIdle
  | phaseSettle
  | phaseWaitStrobe
  | phaseMeasStrobe
  | phaseStartHi
  | phaseCellLo
  | phaseCellHi
  | phaseUnused
  -- the codes of MODEL
  | model306
  | model206
  | model316
  | model506
  | model516
  | modelReserved5
  | modelReserved6
  | modelReserved7
  deriving DecidableEq, Repr

end Sys2Proof
end

