-- ==== Sys2Proof/Machine/Operands.lean ====
section
/-! DEFINITION. How each value the operations use is assembled (`spec/30_encoding.md` rule R91), the codes of the
enumerated registers (R87 to R89) and the constraints on a configuration (`spec/00_scope.md` rule R9). -/

namespace Sys2Proof.Machine

/-! ### The ratio test (R14, R131) -/

/-- `h < (n/d)·t`, by cross-multiplication (R14). -/
abbrev RatioLt (h n d t : Nat) : Prop := h * d < n * t

/-- `h >= (n/d)·t`, by cross-multiplication; a value on the boundary satisfies it (R14). -/
abbrev RatioGe (h n d t : Nat) : Prop := h * d ≥ n * t

/-- CLASSIFY(hi, T) (R131). For `T = 0`, which never reaches it, the formula as written gives X (U10; log 13). -/
def classify (p : Profile) (hi t : Nat) : Symbol :=
  if RatioGe hi p.upNum p.upDen t then .invalid
  else if RatioLt hi p.thrNum p.thrDen t then .zero
  else .one

/-- `ceil(n / d)` for `d >= 1`. -/
def ceilDiv (n d : Nat) : Nat := (n + d - 1) / d

/-- `HLIM`: the least measured duration that reaches the upper bound (R133, R134). -/
def hlim (p : Profile) (t : Nat) : Nat := ceilDiv (p.upNum * t) p.upDen

/-- `HLIM_MAX`: `HLIM` of the longest strobe (R9(e)). -/
def hlimMax (c : Cfg) : Nat := hlim c.profile (c.strobeMax - 1)

/-! ### Words, bytes and bits (R83 to R85, R91) -/

/-- `{SH[7:0], bit}`: the old `SH[8]` is discarded (R150). -/
def shiftIn (sh : Word9) (bit : Bool) : Word9 := sh.extractLsb' 0 8 ++ BitVec.ofBool bit

/-- `w[8:1]`, the data byte of a word (R83). -/
def dataByte (w : Word9) : Byte := w.extractLsb' 1 8

/-- `w[0]`, the parity bit of a word (R83). -/
def parityBit (w : Word9) : Bool := w.getLsbD 0

/-- The number of 1 bits of a value (R11). -/
def popcount {n : Nat} (v : BitVec n) : Nat := (List.range n).countP v.getLsbD

/-- PARITY_OK(w): odd parity over all nine bits (R152). -/
def parityOk (w : Word9) : Bool := popcount w % 2 == 1

/-- `{BYTE_HI, data}` (R153). -/
def joinBytes (hi lo : Byte) : Raw16 := hi ++ lo

/-- The bits of a value in arrival order, the most significant first (R11, R67). -/
def bitsMsb {n : Nat} (v : BitVec n) : List Bool := (List.range n).map v.getMsbD

/-- `w(b) = {b, p(b)}`: the valid word of a data byte, `p(b) = 1 - popcount(b) mod 2` (R83, R155). -/
def encodeWord (b : Byte) : Word9 := b ++ BitVec.ofBool (popcount b % 2 == 0)

/-- The eighteen data bits of two words in arrival order (R84). -/
def joinWords (w0 w1 : Word9) : Frame18 := w0 ++ w1

/-- `ENC(r)`: the data bits of the valid frame that carries `r` (R155). -/
def encodeFrame (r : Raw16) : Frame18 :=
  joinWords (encodeWord (r.extractLsb' 8 8)) (encodeWord (r.extractLsb' 0 8))

/-! ### The temperature (R86, R170, R171) -/

/-- `r * SCALE_NUM - OFFSET * SCALE_DEN`, exact; `r` is unsigned (R91(g), R170). -/
def tempOf (p : Profile) (r : Raw16) : Int := (r.toNat : Int) * p.scaleNum - p.offset * p.scaleDen

/-- The range check on the temperature, by cross-multiplication, both ends inclusive (R14, R171). -/
abbrev TempInRange (p : Profile) (tn : Int) : Prop := p.tmin * p.scaleDen ≤ tn ∧ tn ≤ p.tmax * p.scaleDen

/-! ### Codes (R87 to R89, R200) -/

/-- The codes of `PHASE` (R88). -/
def Phase.code : Phase → Code3
  | .idle => 0
  | .settle => 1
  | .waitStrobe => 2
  | .measStrobe => 3
  | .startHi => 4
  | .cellLo => 5
  | .cellHi => 6

/-- The phase of a code; code 7 is unused (R88). -/
def Phase.ofCode (c : Code3) : Option Phase :=
  [Phase.idle, .settle, .waitStrobe, .measStrobe, .startHi, .cellLo, .cellHi].find? (·.code == c)

/-- The codes of `STATUS` (R87). -/
def Status.code : Status → Code3
  | .none => 0
  | .ok => 1
  | .timeout => 2
  | .invalidStrobeLength => 3
  | .invalidBitTiming => 4
  | .parityError => 5
  | .tempOutOfRange => 6

/-- `code(E)`: the status an exception records (R200). -/
def excStatus : Exc → Status
  | .timeout => .timeout
  | .invalidStrobeLength => .invalidStrobeLength
  | .invalidBitTiming => .invalidBitTiming
  | .parityError => .parityError
  | .temperatureOutOfRange => .tempOutOfRange

/-- The codes of `MODEL` (R89). -/
def modelCode : Model → Code3
  | .m306 => 0
  | .m206 => 1
  | .m316 => 2
  | .m506 => 3
  | .m516 => 4

/-- The row of the profile table that `MODEL` selects (R89, R176). -/
def profileOf (p : ProfileTable) : Model → Option Profile
  | .m306 => p.p306
  | .m206 => p.p206
  | .m316 => p.p316
  | .m506 => p.p506
  | .m516 => p.p516

/-! ### The constraints on a configuration (R9) -/

/-- R9(a): no ratio is degenerate. -/
abbrev RatiosPositive (p : Profile) : Prop :=
  1 ≤ p.thrNum ∧ 1 ≤ p.thrDen ∧ 1 ≤ p.upNum ∧ 1 ≤ p.upDen ∧ 1 ≤ p.scaleNum ∧ 1 ≤ p.scaleDen

/-- R9(b): the threshold lies strictly below the upper bound. -/
abbrev ThresholdBelowUpper (p : Profile) : Prop := p.thrNum * p.upDen < p.upNum * p.thrDen

/-- R9(c), and the type of `PAYLOAD_BITS` (R7; log 16). -/
abbrev RangeAndPayload (p : Profile) : Prop := p.tmin ≤ p.tmax ∧ 1 ≤ p.payloadBits ∧ p.payloadBits ≤ 16

/-- R9(d): the budgets. -/
abbrev BudgetsOk (c : Cfg) : Prop :=
  1 ≤ c.strobeWaitMax ∧ 2 ≤ c.strobeMax ∧ 1 ≤ c.edgeWaitMax ∧ (c.powerCtrl = true → 1 ≤ c.settleTicks)

/-- R9(e): `CNT_W` holds every value a counter takes. -/
abbrev CounterWide (c : Cfg) : Prop :=
  c.strobeWaitMax < 2 ^ c.cntW ∧ c.strobeMax < 2 ^ c.cntW ∧ c.edgeWaitMax < 2 ^ c.cntW ∧
    c.settleTicks < 2 ^ c.cntW ∧ hlimMax c < 2 ^ c.cntW

/-- `x` fits `w` bits of two's complement; there is at least the sign bit (log 16). -/
abbrev FitsSigned (w : Nat) (x : Int) : Prop := 1 ≤ w ∧ -(2 ^ (w - 1) : Int) ≤ x ∧ x < (2 ^ (w - 1) : Int)

/-- R9(f): `TEMP_W` holds the result of every conversion; `RAW` = 0 gives the least and 65535 the greatest. -/
abbrev TempWide (c : Cfg) : Prop :=
  FitsSigned c.tempW (tempOf c.profile 0) ∧ FitsSigned c.tempW (tempOf c.profile 65535)

/-- A configuration of this hardware (R9): any other is refused. -/
abbrev ConfigOk (c : Cfg) : Prop :=
  RatiosPositive c.profile ∧ ThresholdBelowUpper c.profile ∧ RangeAndPayload c.profile ∧
    BudgetsOk c ∧ CounterWide c ∧ TempWide c

end Sys2Proof.Machine
end

