-- ==== Sys2Proof/Machine/Flags.lean ====
section
/-! DEFINITION. The derived flags (`spec/10_state.md` rule R34) and the output ports (`spec/20_memory.md` rule
R61): pure functions of the registers. -/

namespace Sys2Proof.Machine

/-- `busy = (PHASE != IDLE)` (R34). -/
def State.busy (s : State) : Bool := s.phase != .idle

/-- `done = (PHASE = IDLE and STATUS != NONE)` (R34). -/
def State.done (s : State) : Bool := s.phase == .idle && s.status != .none

/-- `valid = (PHASE = IDLE and STATUS = OK)` (R34). -/
def State.valid (s : State) : Bool := s.phase == .idle && s.status == .ok

/-- `vdd_en`: `PWR` when `POWER_CTRL`, else constant 0 (R35, R61). -/
def State.vddEn (s : State) : Bool := s.cfg.powerCtrl && s.pwr

/-- The output ports (R61). -/
structure Outputs where
  busy : Bool
  done : Bool
  valid : Bool
  status : Code3
  raw : Raw16
  tempNum : Int
  vddEn : Bool
  deriving DecidableEq, Repr

/-- What the host reads on the output ports; reading has no side effect (R62). -/
def State.outputs (s : State) : Outputs where
  busy := s.busy
  done := s.done
  valid := s.valid
  status := s.status.code
  raw := s.raw
  tempNum := s.tempNum
  vddEn := s.vddEn

end Sys2Proof.Machine
end

