-- ==== Sys2Proof/Machine/Ops.lean ====
section
/-! DEFINITION. The operations over the registers that the families share: the write of `PWR`, a phase change, and
taking an exception. There is no memory to operate on (`spec/20_memory.md` rule R60) and no return from an
exception (`spec/60_exceptions.md` rule R209). -/

namespace Sys2Proof.Machine

/-- `PWR <- v`; without `POWER_CTRL` the register is absent and the write is void (R35; log 14). -/
def State.setPwr (s : State) (v : Bool) : State := { s with pwr := if s.cfg.powerCtrl then v else s.pwr }

/-- `CNT <- 0` and `PHASE <- p`: `CNT` is set to 0 whenever `PHASE` changes (R21). -/
def State.enter (s : State) (p : Phase) : State := { s with phase := p, cnt := 0 }

/-- `CNT <- v`. -/
def State.setCnt (s : State) (v : Nat) : State := { s with cnt := v }

/-- What ends a read: the status is recorded, the sequencer is idle, the supply is off (R172, R204). -/
def State.endRead (s : State) (st : Status) : State := ({ s with status := st }.enter .idle).setPwr false

/-- ABORT(E), taking an exception: `raise E` in any operation (R204). Nothing is saved; what the raising operation
wrote before stands. -/
def State.raise (s : State) (e : Exc) : State := s.endRead (excStatus e)

/-- The registers READ and RESET clear alike (R110, R230). -/
def State.clear (s : State) : State :=
  { s with status := .none, cnt := 0, t := 0, sh := 0, nbits := 0, nword := 0, byteHi := 0, raw := 0, tempNum := 0 }

end Sys2Proof.Machine
end

