-- ==== Sys2Proof/Machine/TempConvert.lean ====
section
/-! DEFINITION. The temperature converter: CONVERT, RANGECHK, FINISH (`spec/43_temp_convert.md`). -/

namespace Sys2Proof.Machine

/-- FINISH: complete the read successfully (R172). -/
def finish (s : State) : State := s.endRead .ok

/-- RANGECHK(tn): the valid-range check (R171). -/
def rangechk (tn : Int) (s : State) : State :=
  if TempInRange s.cfg.profile tn then finish s else s.raise .temperatureOutOfRange

/-- CONVERT(r): the linear formula, then the range check in the same tick (R170). -/
def convert (r : Raw16) (s : State) : State :=
  rangechk (tempOf s.cfg.profile r) { s with tempNum := tempOf s.cfg.profile r }

/-- FINISH executed by itself (R172). -/
def execFinish (s : State) : Host.Outcome State Fault Refusal := .next (finish s)

/-- RANGECHK executed by itself (R171). -/
def execRangechk (tn : Int) (s : State) : Host.Outcome State Fault Refusal := .next (rangechk tn s)

/-- CONVERT executed by itself (R170). -/
def execConvert (r : Raw16) (s : State) : Host.Outcome State Fault Refusal := .next (convert r s)

end Sys2Proof.Machine
end

