-- ==== Sys2Proof/Machine/Codes.lean ====
section
/-! DEFINITION. The code rows of the operation table: the other codes of `STATUS`, the codes of `PHASE`, the codes
of `MODEL` (`spec/30_encoding.md` rules R87 to R89). -/

namespace Sys2Proof.Machine

/-! ### STATUS (R36, R87; log 6) -/

/-- STATUS code 0: no result (R36, R87). -/
def execStatusNone (s : State) : Host.Outcome State Fault Refusal := .next { s with status := .none }

/-- STATUS code 1: OK, which FINISH alone records (R36, R87, R172). -/
def execStatusOk (s : State) : Host.Outcome State Fault Refusal := .next (finish s)

/-- STATUS code 7: reserved, never produced (R87, U9). -/
def execStatusReserved (_s : State) : Host.Outcome State Fault Refusal := .refused .reservedStatusCode

/-! ### PHASE (R12, R88; log 7) -/

/-- `PHASE <- p`, the control transfer of this hardware (R12); `CNT` is set to 0 whenever `PHASE` changes (R21). -/
def State.transfer (s : State) (p : Phase) : State := if s.phase = p then s else s.enter p

/-- PHASE code 0 (R88). -/
def execPhaseIdle (s : State) : Host.Outcome State Fault Refusal := .next (s.transfer .idle)

/-- PHASE code 1 (R88); without `POWER_CTRL` the phase is unreachable and the transfer void (R190). -/
def execPhaseSettle (s : State) : Host.Outcome State Fault Refusal :=
  .next (if s.cfg.powerCtrl then s.transfer .settle else s)

/-- PHASE code 2 (R88). -/
def execPhaseWaitStrobe (s : State) : Host.Outcome State Fault Refusal := .next (s.transfer .waitStrobe)

/-- PHASE code 3 (R88). -/
def execPhaseMeasStrobe (s : State) : Host.Outcome State Fault Refusal := .next (s.transfer .measStrobe)

/-- PHASE code 4 (R88). -/
def execPhaseStartHi (s : State) : Host.Outcome State Fault Refusal := .next (s.transfer .startHi)

/-- PHASE code 5 (R88). -/
def execPhaseCellLo (s : State) : Host.Outcome State Fault Refusal := .next (s.transfer .cellLo)

/-- PHASE code 6 (R88). -/
def execPhaseCellHi (s : State) : Host.Outcome State Fault Refusal := .next (s.transfer .cellHi)

/-- PHASE code 7: unused, never produced (R27, R88, U9). -/
def execPhaseUnused (_s : State) : Host.Outcome State Fault Refusal := .refused .reservedPhaseCode

/-! ### MODEL (R89, R176, R245; log 8) -/

/-- The selector presented on a port: it selects a row of the profile table and has no other effect (R89). A model
without constants is refused (U4), a configuration that breaks R9 is refused (U7), and so is one that changes
during a read (R245, U6). -/
def selectModel (m : Model) (s : State) : Host.Outcome State Fault Refusal :=
  match profileOf s.profiles m with
  | none => .refused .modelWithoutConstants
  | some p =>
    let c := { s.cfg with model := m, profile := p }
    if ¬ConfigOk c then .refused .invalidConfiguration
    else if s.phase = .idle ∨ c = s.cfg then .next { s with cfg := c }
    else .refused .configChangedDuringRead

/-- MODEL code 0 (R89). -/
def execModel306 (s : State) : Host.Outcome State Fault Refusal := selectModel .m306 s

/-- MODEL code 1 (R89). -/
def execModel206 (s : State) : Host.Outcome State Fault Refusal := selectModel .m206 s

/-- MODEL code 2 (R89). -/
def execModel316 (s : State) : Host.Outcome State Fault Refusal := selectModel .m316 s

/-- MODEL code 3 (R89). -/
def execModel506 (s : State) : Host.Outcome State Fault Refusal := selectModel .m506 s

/-- MODEL code 4 (R89). -/
def execModel516 (s : State) : Host.Outcome State Fault Refusal := selectModel .m516 s

/-- MODEL code 5: reserved, a configuration with it is refused (R89, U8). -/
def execModelReserved5 (_s : State) : Host.Outcome State Fault Refusal := .refused .reservedModelCode

/-- MODEL code 6: reserved, a configuration with it is refused (R89, U8). -/
def execModelReserved6 (_s : State) : Host.Outcome State Fault Refusal := .refused .reservedModelCode

/-- MODEL code 7: reserved, a configuration with it is refused (R89, U8). -/
def execModelReserved7 (_s : State) : Host.Outcome State Fault Refusal := .refused .reservedModelCode

end Sys2Proof.Machine
end

