-- ==== Sys2Proof/Machine/Exceptions.lean ====
section
/-! DEFINITION. ABORT, and the STATUS rows of the five exceptions (`spec/60_exceptions.md`). -/

namespace Sys2Proof.Machine

/-- ABORT executed by itself (R204). -/
def execAbort (e : Exc) (s : State) : Host.Outcome State Fault Refusal := .next (s.raise e)

/-- STATUS code 2: `Timeout` is taken (R201, R204; log 6). -/
def execStatusTimeout (s : State) : Host.Outcome State Fault Refusal := .next (s.raise .timeout)

/-- STATUS code 3: `InvalidStrobeLength` is taken (R202, R204; log 6). -/
def execStatusInvalidStrobeLength (s : State) : Host.Outcome State Fault Refusal :=
  .next (s.raise .invalidStrobeLength)

/-- STATUS code 4: `InvalidBitTiming` is taken (R203, R204; log 6). -/
def execStatusInvalidBitTiming (s : State) : Host.Outcome State Fault Refusal := .next (s.raise .invalidBitTiming)

/-- STATUS code 5: `ParityError` is taken (R205, R204; log 6). -/
def execStatusParityError (s : State) : Host.Outcome State Fault Refusal := .next (s.raise .parityError)

/-- STATUS code 6: `TemperatureOutOfRange` is taken (R206, R204; log 6). -/
def execStatusTempOutOfRange (s : State) : Host.Outcome State Fault Refusal :=
  .next (s.raise .temperatureOutOfRange)

end Sys2Proof.Machine
end

