-- ==== Sys2Proof/Machine/WordFrame.lean ====
section
/-! DEFINITION. The word assembler, the parity validator and the frame assembler: SHIFT, WORDCHK, PARITY_OK, FRAME
(`spec/42_word_frame.md`). -/

namespace Sys2Proof.Machine

/-- FRAME(data): combine the two data bytes, then convert in the same tick (R153). -/
def frame (data : Byte) (s : State) : State :=
  convert (joinBytes s.byteHi data) { s with raw := joinBytes s.byteHi data }

/-- WORDCHK(w): validate the word and extract its data byte (R151). -/
def wordchk (w : Word9) (s : State) : State :=
  if parityOk w then
    if s.nword = 0 then { s with byteHi := dataByte w, nword := 1 }.enter .cellLo
    else frame (dataByte w) s
  else s.raise .parityError

/-- SHIFT(bit): append one bit to the word (R150). -/
def shift (bit : Bool) (s : State) : State :=
  if s.nbits < dataBits then { s with sh := shiftIn s.sh bit, nbits := s.nbits + 1 }.enter .cellLo
  else wordchk (shiftIn s.sh bit) { s with sh := shiftIn s.sh bit, nbits := 0 }

/-- SHIFT executed by itself (R150). -/
def execShift (bit : Bool) (s : State) : Host.Outcome State Fault Refusal := .next (shift bit s)

/-- WORDCHK executed by itself (R151). -/
def execWordchk (w : Word9) (s : State) : Host.Outcome State Fault Refusal := .next (wordchk w s)

/-- PARITY_OK executed by itself: a pure predicate, no register changes (R152); its value is kept in `result`
(log 4). -/
def execParityOk (w : Word9) (s : State) : Host.Outcome State Fault Refusal :=
  .next { s with result := .parity (parityOk w) }

/-- FRAME executed by itself (R153). -/
def execFrame (data : Byte) (s : State) : Host.Outcome State Fault Refusal := .next (frame data s)

end Sys2Proof.Machine
end

