-- ==== Sys2Proof/Machine/BitDecoder.lean ====
section
/-! DEFINITION. The pulse classifier: CELLLO, CLASSIFY, CELLHI (`spec/41_bit_decoder.md`). -/

namespace Sys2Proof.Machine

/-- CELLLO: skip the low part of a data cell (R130). -/
def celllo (zw : Bool) (s : State) : State :=
  if zw then s.enter .cellHi
  else if s.cnt + 1 = s.cfg.edgeWaitMax then s.raise .timeout
  else s.setCnt (s.cnt + 1)

/-- What CELLHI does with the symbol of the cell that has ended: deliver the bit, or raise on X (R131, R133; log 13). -/
def deliverSymbol (y : Symbol) (s : State) : State :=
  match y with
  | .zero => shift false s
  | .one => shift true s
  | .invalid => s.raise .invalidBitTiming

/-- CELLHI: measure the high part of a data cell and deliver the bit (R133). -/
def cellhi (zw : Bool) (s : State) : State :=
  if zw then
    if RatioGe (s.cnt + 1) s.cfg.profile.upNum s.cfg.profile.upDen s.t then s.raise .invalidBitTiming
    else s.setCnt (s.cnt + 1)
  else deliverSymbol (classify s.cfg.profile s.cnt s.t) s

/-- CELLLO at its tick (R130); `start` is not examined. -/
def execCelllo (_start zw : Bool) (s : State) : Host.Outcome State Fault Refusal := .next (celllo zw s)

/-- CELLHI at its tick (R133); `start` is not examined. -/
def execCellhi (_start zw : Bool) (s : State) : Host.Outcome State Fault Refusal := .next (cellhi zw s)

/-- CLASSIFY executed by itself on `hi` = `CNT` and `T`: a pure function, no register changes (R131); its value is
kept in `result` (log 4). -/
def execClassify (s : State) : Host.Outcome State Fault Refusal :=
  .next { s with result := .symbol (classify s.cfg.profile s.cnt s.t) }

end Sys2Proof.Machine
end

