-- ==== Sys2Proof/Machine/PowerSequencer.lean ====
section
/-! DEFINITION. The optional power sequencer: PWRON, SETTLE, PWROFF (`spec/44_vdd_sequencer.md`). Without
`POWER_CTRL` all three are void (R190; log 12). -/

namespace Sys2Proof.Machine

/-- PWRON: assert the sensor supply and begin to settle (R191). -/
def pwron (s : State) : State := if s.cfg.powerCtrl then (s.setPwr true).enter .settle else s

/-- PWROFF: deassert the sensor supply (R193). -/
def pwroff (s : State) : State := s.setPwr false

/-- SETTLE: wait the settle delay (R192). -/
def settle (s : State) : State :=
  if s.cfg.powerCtrl then
    if s.cnt = s.cfg.settleTicks - 1 then s.enter .waitStrobe else s.setCnt (s.cnt + 1)
  else s

/-- PWRON executed by itself (R191). -/
def execPwron (s : State) : Host.Outcome State Fault Refusal := .next (pwron s)

/-- PWROFF executed by itself (R193). -/
def execPwroff (s : State) : Host.Outcome State Fault Refusal := .next (pwroff s)

/-- SETTLE at its tick (R192); `start` and `zw_in` are not examined. -/
def execSettle (_start _zw : Bool) (s : State) : Host.Outcome State Fault Refusal := .next (settle s)

end Sys2Proof.Machine
end

