-- ==== Sys2Proof/Machine/HostCommands.lean ====
section
/-! DEFINITION. The host's commands: NOP and READ (`spec/40_strobe_sync.md`), RESET
(`spec/70_reset_and_hazards.md`). -/

namespace Sys2Proof.Machine

/-- READ: accept the read command (R110). -/
def read (s : State) : State :=
  if s.cfg.powerCtrl then pwron s.clear else s.clear.enter .waitStrobe

/-- RESET (R230): every register takes its reset value (R41); `CFG` is not state (R230(d)). The model's own
`result` is emptied with them (log 4). -/
def resetRegs (s : State) : State := { (s.clear.enter .idle).setPwr false with result := .nothing }

/-- NOP: idle tick, no register changes (R111). -/
def execNop (_zw : Bool) (s : State) : Host.Outcome State Fault Refusal := .next s

/-- READ at its tick (R110); `zw_in` is not examined. -/
def execRead (_zw : Bool) (s : State) : Host.Outcome State Fault Refusal := .next (read s)

/-- RESET at its tick, in any phase (R230); `start` and `zw_in` are not examined. -/
def execReset (_phase : Code3) (_start _zw : Bool) (s : State) : Host.Outcome State Fault Refusal :=
  .next (resetRegs s)

end Sys2Proof.Machine
end

