-- ==== Sys2Proof/Machine/StrobeSync.lean ====
section
/-! DEFINITION. The strobe synchronizer: WAITSTB, MEASSTB, STARTHI (`spec/40_strobe_sync.md`). -/

namespace Sys2Proof.Machine

/-- WAITSTB: wait for the line to go low (R112). -/
def waitstb (zw : Bool) (s : State) : State :=
  if zw then
    if s.cnt = s.cfg.strobeWaitMax - 1 then s.raise .timeout else s.setCnt (s.cnt + 1)
  else s.enter .measStrobe

/-- MEASSTB: measure the strobe (R113). -/
def measstb (zw : Bool) (s : State) : State :=
  if zw then
    if s.cnt = 0 then s.raise .invalidStrobeLength else { s with t := s.cnt }.enter .startHi
  else if s.cnt + 1 = s.cfg.strobeMax then s.raise .timeout
  else s.setCnt (s.cnt + 1)

/-- STARTHI: skip the high part of the start cell (R114). -/
def starthi (zw : Bool) (s : State) : State :=
  if zw then
    if s.cnt + 1 = s.cfg.edgeWaitMax then s.raise .timeout else s.setCnt (s.cnt + 1)
  else s.enter .cellLo

/-- WAITSTB at its tick (R112); `start` is not examined. -/
def execWaitstb (_start zw : Bool) (s : State) : Host.Outcome State Fault Refusal := .next (waitstb zw s)

/-- MEASSTB at its tick (R113); `start` is not examined. -/
def execMeasstb (_start zw : Bool) (s : State) : Host.Outcome State Fault Refusal := .next (measstb zw s)

/-- STARTHI at its tick (R114); `start` is not examined. -/
def execStarthi (_start zw : Bool) (s : State) : Host.Outcome State Fault Refusal := .next (starthi zw s)

end Sys2Proof.Machine
end

