-- ==== Sys2Proof/Machine/Tick.lean ====
section
/-! DEFINITION. The step rule as a function of the state and the sampled inputs (`spec/10_state.md` rule R30), its
fold over many ticks, and the trace notation (`spec/30_encoding.md` rules R95, R96). -/

namespace Sys2Proof.Machine

/-- `step(state, rst, start, zw)` (R30). -/
def tick (i : Input) (s : State) : State :=
  if i.rst then resetRegs s
  else match s.phase with
    | .idle => if i.start then read s else s
    | .settle => settle s
    | .waitStrobe => waitstb i.zw s
    | .measStrobe => measstb i.zw s
    | .startHi => starthi i.zw s
    | .cellLo => celllo i.zw s
    | .cellHi => cellhi i.zw s

/-- The ticks of an input trace, the first input first. -/
def ticks (ins : List Input) (s : State) : State := ins.foldl (fun s i => tick i s) s

/-- A tick of the line alone: `rst = start = 0` (R95). -/
def lineInput (zw : Bool) : Input := { rst := false, start := false, zw := zw }

/-- The decoder receives these samples of the line, with `rst = start = 0` throughout (R95). -/
def feed (zs : List Bool) (s : State) : State := ticks (zs.map lineInput) s

/-! ### Traces (R95, R96): lists of samples -/

/-- `L<n>` (R95). -/
def low (n : Nat) : List Bool := List.replicate n false

/-- `H<n>` (R95). -/
def high (n : Nat) : List Bool := List.replicate n true

/-- `CELL(l, h)`, and `START(t, g)` with the same shape: every run is one sample longer than its measured duration
(R64, R96). -/
def cellTrace (lo hi : Nat) : List Bool := low (lo + 1) ++ high (hi + 1)

/-- `END`: the falling edge that ends the last cell (R96). -/
def endTrace : List Bool := low 1

/-- `B0[t]` and `B1[t]`: the reference shapes (R96). -/
def bitTrace (t : Nat) (bit : Bool) : List Bool := cellTrace t (if bit then 2 * t else t)

/-- The cells of these bits in reference shape. -/
def bitsTrace (t : Nat) (bits : List Bool) : List Bool := (bits.map (bitTrace t)).flatten

/-- `WORD[t](b)` (R96). -/
def wordTrace (t : Nat) (b : Byte) : List Bool := bitsTrace t (bitsMsb (encodeWord b))

/-- `FRAME[t](r)` (R96). -/
def frameTrace (t : Nat) (r : Raw16) : List Bool :=
  cellTrace t t ++ wordTrace t (r.extractLsb' 8 8) ++ wordTrace t (r.extractLsb' 0 8) ++ endTrace

end Sys2Proof.Machine
end

