-- ==== Sys2Proof/Machine/Line.lean ====
section
/-! DEFINITION. The wire rows of the operation table: the start cell, the three kinds of data cell, the word, the
frame and the raw value (`spec/30_encoding.md` rules R80 to R85; log 5). A cell is executed as its expansion into
samples (R95, R96), a word and a frame as the delivery of their bits to SHIFT (R135, R155). -/

namespace Sys2Proof.Machine

/-- START: the decoder receives the start cell `START(t, g)` (R81, R96). -/
def execStart (t g : Nat) (s : State) : Host.Outcome State Fault Refusal := .next (feed (cellTrace t g) s)

/-- SYM0: the decoder receives the data cell `CELL(lo, hi)`, a 0 (R82). -/
def execSym0 (lo hi : Nat) (s : State) : Host.Outcome State Fault Refusal := .next (feed (cellTrace lo hi) s)

/-- SYM1: the decoder receives the data cell `CELL(lo, hi)`, a 1 (R82). -/
def execSym1 (lo hi : Nat) (s : State) : Host.Outcome State Fault Refusal := .next (feed (cellTrace lo hi) s)

/-- SYMX: the decoder receives the data cell `CELL(lo, hi)`, whose high run is out of bounds (R82, R203). -/
def execSymx (lo hi : Nat) (s : State) : Host.Outcome State Fault Refusal := .next (feed (cellTrace lo hi) s)

/-- The strobe has been measured and the read has not ended, so a cell's bit reaches the assembler. -/
def State.receiving (s : State) : Bool := s.phase == .startHi || s.phase == .cellLo || s.phase == .cellHi

/-- One bit is delivered to SHIFT (R135); outside the data cells of a read nothing is delivered (R204: no later
sample is examined). -/
def deliverBit (bit : Bool) (s : State) : State := if s.receiving then shift bit s else s

/-- Bits are delivered one at a time, in the order their cells arrive, each exactly once (R135). -/
def deliverBits (bits : List Bool) (s : State) : State := bits.foldl (fun s b => deliverBit b s) s

/-- WORD: the nine bits of a word are delivered, `d7` first, the parity bit last (R67, R83). -/
def execWord (w : Word9) (s : State) : Host.Outcome State Fault Refusal := .next (deliverBits (bitsMsb w) s)

/-- FRAME_BITS: the eighteen bits of a frame are delivered in arrival order (R67, R84, R155). -/
def execFrameBits (bits : Frame18) (s : State) : Host.Outcome State Fault Refusal :=
  .next (deliverBits (bitsMsb bits) s)

/-- RAW: the raw measurement is `{h, l}`, all sixteen bits of it (R85). -/
def execRaw (r : Raw16) (s : State) : Host.Outcome State Fault Refusal := .next { s with raw := r }

end Sys2Proof.Machine
end

