-- ==== Sys2Proof/Machine/Dispatch.lean ====
section
/-! DEFINITION. The meaning of every operation: one arm a row of `spec/opcode_table.json`, one direct call an arm. -/

namespace Sys2Proof.Machine

def exec (i : Instr) (s : State) : Host.Outcome State Fault Refusal :=
  match i with
  | .reset p st zw => Sys2Proof.Machine.execReset p st zw s
  | .nop zw => Sys2Proof.Machine.execNop zw s
  | .read zw => Sys2Proof.Machine.execRead zw s
  | .settle st zw => Sys2Proof.Machine.execSettle st zw s
  | .waitstb st zw => Sys2Proof.Machine.execWaitstb st zw s
  | .measstb st zw => Sys2Proof.Machine.execMeasstb st zw s
  | .starthi st zw => Sys2Proof.Machine.execStarthi st zw s
  | .celllo st zw => Sys2Proof.Machine.execCelllo st zw s
  | .cellhi st zw => Sys2Proof.Machine.execCellhi st zw s
  | .pwron => Sys2Proof.Machine.execPwron s
  | .pwroff => Sys2Proof.Machine.execPwroff s
  | .classify => Sys2Proof.Machine.execClassify s
  | .shift b => Sys2Proof.Machine.execShift b s
  | .wordchk w => Sys2Proof.Machine.execWordchk w s
  | .parityOk w => Sys2Proof.Machine.execParityOk w s
  | .frame data => Sys2Proof.Machine.execFrame data s
  | .convert r => Sys2Proof.Machine.execConvert r s
  | .rangechk tn => Sys2Proof.Machine.execRangechk tn s
  | .finish => Sys2Proof.Machine.execFinish s
  | .abort e => Sys2Proof.Machine.execAbort e s
  | .start t g => Sys2Proof.Machine.execStart t g s
  | .sym0 lo hi => Sys2Proof.Machine.execSym0 lo hi s
  | .sym1 lo hi => Sys2Proof.Machine.execSym1 lo hi s
  | .symx lo hi => Sys2Proof.Machine.execSymx lo hi s
  | .word w => Sys2Proof.Machine.execWord w s
  | .frameBits bits => Sys2Proof.Machine.execFrameBits bits s
  | .raw r => Sys2Proof.Machine.execRaw r s
  | .statusNone => Sys2Proof.Machine.execStatusNone s
  | .statusOk => Sys2Proof.Machine.execStatusOk s
  | .statusTimeout => Sys2Proof.Machine.execStatusTimeout s
  | .statusInvalidStrobeLength => Sys2Proof.Machine.execStatusInvalidStrobeLength s
  | .statusInvalidBitTiming => Sys2Proof.Machine.execStatusInvalidBitTiming s
  | .statusParityError => Sys2Proof.Machine.execStatusParityError s
  | .statusTempOutOfRange => Sys2Proof.Machine.execStatusTempOutOfRange s
  | .statusReserved => Sys2Proof.Machine.execStatusReserved s
  | .phaseIdle => Sys2Proof.Machine.execPhaseIdle s
  | .phaseSettle => Sys2Proof.Machine.execPhaseSettle s
  | .phaseWaitStrobe => Sys2Proof.Machine.execPhaseWaitStrobe s
  | .phaseMeasStrobe => Sys2Proof.Machine.execPhaseMeasStrobe s
  | .phaseStartHi => Sys2Proof.Machine.execPhaseStartHi s
  | .phaseCellLo => Sys2Proof.Machine.execPhaseCellLo s
  | .phaseCellHi => Sys2Proof.Machine.execPhaseCellHi s
  | .phaseUnused => Sys2Proof.Machine.execPhaseUnused s
  | .model306 => Sys2Proof.Machine.execModel306 s
  | .model206 => Sys2Proof.Machine.execModel206 s
  | .model316 => Sys2Proof.Machine.execModel316 s
  | .model506 => Sys2Proof.Machine.execModel506 s
  | .model516 => Sys2Proof.Machine.execModel516 s
  | .modelReserved5 => Sys2Proof.Machine.execModelReserved5 s
  | .modelReserved6 => Sys2Proof.Machine.execModelReserved6 s
  | .modelReserved7 => Sys2Proof.Machine.execModelReserved7 s

end Sys2Proof.Machine
end

