-- ==== Sys2Proof/WellFormed.lean ====
section
/-! DEFINITION. Which operations are well formed (`spec/30_encoding.md` rules R81, R82; `spec/00_scope.md` rule R9).
A wire cell is well formed or not in the context of a frame: the configuration, and the strobe once it is
measured. -/

namespace Sys2Proof

/-- Where on the line a cell stands: `strobe = none` before the start cell, `some T` for a data cell (R84). -/
structure LineContext where
  cfg : Cfg
  strobe : Option Nat
  deriving DecidableEq, Repr

/-- A well-formed start cell (R81). -/
def startCellOk (c : Cfg) (t g : Nat) : Bool := 1 ≤ t && t + 1 ≤ c.strobeMax && g + 1 ≤ c.edgeWaitMax

/-- A data cell after a strobe `t`: its low run is within its budget and its high run has this symbol (R82). -/
def dataCellIs (c : Cfg) (strobe : Option Nat) (y : Machine.Symbol) (lo hi : Nat) : Bool :=
  match strobe with
  | none => false
  | some t => 1 ≤ t && lo + 1 ≤ c.edgeWaitMax && Machine.classify c.profile hi t == y

/-- Well-formedness: of a cell in its context, and of a numerator that RANGECHK is given (R9(f)). Every other
operand is well formed at every value its type has. -/
def Instr.wf (x : LineContext) : Instr → Bool
  | .start t g => x.strobe == none && startCellOk x.cfg t g
  | .sym0 lo hi => dataCellIs x.cfg x.strobe .zero lo hi
  | .sym1 lo hi => dataCellIs x.cfg x.strobe .one lo hi
  | .symx lo hi => dataCellIs x.cfg x.strobe .invalid lo hi
  | .rangechk tn => decide (Machine.FitsSigned x.cfg.tempW tn)
  | .reset _ _ _ => true
  | .nop _ => true
  | .read _ => true
  | .settle _ _ => true
  | .waitstb _ _ => true
  | .measstb _ _ => true
  | .starthi _ _ => true
  | .celllo _ _ => true
  | .cellhi _ _ => true
  | .pwron => true
  | .pwroff => true
  | .classify => true
  | .shift _ => true
  | .wordchk _ => true
  | .parityOk _ => true
  | .frame _ => true
  | .convert _ => true
  | .finish => true
  | .abort _ => true
  | .word _ => true
  | .frameBits _ => true
  | .raw _ => true
  | .statusNone => true
  | .statusOk => true
  | .statusTimeout => true
  | .statusInvalidStrobeLength => true
  | .statusInvalidBitTiming => true
  | .statusParityError => true
  | .statusTempOutOfRange => true
  | .statusReserved => true
  | .phaseIdle => true
  | .phaseSettle => true
  | .phaseWaitStrobe => true
  | .phaseMeasStrobe => true
  | .phaseStartHi => true
  | .phaseCellLo => true
  | .phaseCellHi => true
  | .phaseUnused => true
  | .model306 => true
  | .model206 => true
  | .model316 => true
  | .model506 => true
  | .model516 => true
  | .modelReserved5 => true
  | .modelReserved6 => true
  | .modelReserved7 => true

end Sys2Proof
end

