-- ==== Sys2Proof/Decode.lean ====
section
/-! DEFINITION. Decoding and encoding of every row that has an encoding (`spec/30_encoding.md` rules R80 to R92).
The rows have several formats, and one bit pattern means a different thing in each, so a code carries its format.
The eleven sub-operations have none: their selector is text (R92). -/

namespace Sys2Proof

/-- A bit pattern with the format of its row (the field `format` of the operation table). -/
inductive Code where
  /-- `tick-operation`: `sel = {rst, PHASE[2:0], start, zw_in}` (R92). -/
  | sel (w : Sel)
  /-- `wire-cell`: the samples of the cell (R80, R95). -/
  | cell (samples : List Bool)
  /-- `word-9` (R83). -/
  | word (w : Word9)
  /-- `frame-18` (R84). -/
  | frame (bits : Frame18)
  /-- `value-16` (R85). -/
  | value (r : Raw16)
  /-- `status-3` (R87). -/
  | status (c : Code3)
  /-- `phase-3` (R88). -/
  | phase (c : Code3)
  /-- `model-3` (R89). -/
  | model (c : Code3)
  deriving DecidableEq, Repr

/-- Why a code is no operation. -/
inductive DecodeError where
  /-- `sel` has `rst = 0` and the unused `PHASE` code 7 (R88). -/
  | unusedPhase
  /-- The samples are not one low run followed by one high run (R80). -/
  | notACell
  /-- The start cell is not well formed (R81, R93). -/
  | badStartCell
  /-- The low run of a data cell exceeds its budget, or no strobe precedes it (R82, R93). -/
  | badDataCell
  deriving DecidableEq, Repr

/-- A row of the tick operations: selected when `sel and mask = bits` (R92). -/
structure TickRow where
  mask : Sel
  bits : Sel
  operation : Sel → Instr

/-- `PHASE` of a selector word, bits 4 to 2. -/
def selPhase (w : Sel) : Code3 := w.extractLsb' 2 3

/-- `start` of a selector word, bit 1. -/
def selStart (w : Sel) : Bool := w.getLsbD 1

/-- `zw_in` of a selector word, bit 0. -/
def selZw (w : Sel) : Bool := w.getLsbD 0

/-- The nine rows that own a tick, as the operation table gives them (R92). -/
def tickRows : List TickRow :=
  [ { mask := 0b100000, bits := 0b100000, operation := fun w => .reset (selPhase w) (selStart w) (selZw w) },
    { mask := 0b111110, bits := 0b000000, operation := fun w => .nop (selZw w) },
    { mask := 0b111110, bits := 0b000010, operation := fun w => .read (selZw w) },
    { mask := 0b111100, bits := 0b000100, operation := fun w => .settle (selStart w) (selZw w) },
    { mask := 0b111100, bits := 0b001000, operation := fun w => .waitstb (selStart w) (selZw w) },
    { mask := 0b111100, bits := 0b001100, operation := fun w => .measstb (selStart w) (selZw w) },
    { mask := 0b111100, bits := 0b010000, operation := fun w => .starthi (selStart w) (selZw w) },
    { mask := 0b111100, bits := 0b010100, operation := fun w => .celllo (selStart w) (selZw w) },
    { mask := 0b111100, bits := 0b011000, operation := fun w => .cellhi (selStart w) (selZw w) } ]

/-- The tick operation a selector word selects (R92). -/
def decodeSel (w : Sel) : Except DecodeError Instr :=
  match tickRows.find? (fun r => w &&& r.mask == r.bits) with
  | some r => .ok (r.operation w)
  | none => .error .unusedPhase

/-- The length of the leading run of samples equal to `level`. -/
def runLength (level : Bool) (zs : List Bool) : Nat := (zs.takeWhile (· == level)).length

/-- The runs of a cell: `n_lo` low samples, then `n_hi` high samples, both at least 1, and nothing else (R80). -/
def cellRuns (zs : List Bool) : Option (Nat × Nat) :=
  let nlo := runLength false zs
  let nhi := runLength true (zs.drop nlo)
  if 1 ≤ nlo ∧ 1 ≤ nhi ∧ nlo + nhi = zs.length then some (nlo, nhi) else none

/-- The symbol row of a data cell (R82). -/
def symbolRow (y : Machine.Symbol) (lo hi : Nat) : Instr :=
  match y with
  | .zero => .sym0 lo hi
  | .one => .sym1 lo hi
  | .invalid => .symx lo hi

/-- The cell that these samples are, in their context: the start cell before a strobe is measured, a data cell
after (R81, R82, R84). -/
def decodeCell (x : LineContext) (zs : List Bool) : Except DecodeError Instr :=
  match cellRuns zs with
  | none => .error .notACell
  | some (nlo, nhi) =>
    match x.strobe with
    | none =>
      if startCellOk x.cfg (nlo - 1) (nhi - 1) then .ok (.start (nlo - 1) (nhi - 1)) else .error .badStartCell
    | some t =>
      if 1 ≤ t ∧ nlo ≤ x.cfg.edgeWaitMax then
        .ok (symbolRow (Machine.classify x.cfg.profile (nhi - 1) t) (nlo - 1) (nhi - 1))
      else .error .badDataCell

/-- The codes of `STATUS` (R87). -/
def decodeStatus (c : Code3) : Instr :=
  match c.toNat with
  | 0 => .statusNone
  | 1 => .statusOk
  | 2 => .statusTimeout
  | 3 => .statusInvalidStrobeLength
  | 4 => .statusInvalidBitTiming
  | 5 => .statusParityError
  | 6 => .statusTempOutOfRange
  | _ => .statusReserved

/-- The codes of `PHASE` (R88). -/
def decodePhase (c : Code3) : Instr :=
  match c.toNat with
  | 0 => .phaseIdle
  | 1 => .phaseSettle
  | 2 => .phaseWaitStrobe
  | 3 => .phaseMeasStrobe
  | 4 => .phaseStartHi
  | 5 => .phaseCellLo
  | 6 => .phaseCellHi
  | _ => .phaseUnused

/-- The codes of `MODEL` (R89). -/
def decodeModel (c : Code3) : Instr :=
  match c.toNat with
  | 0 => .model306
  | 1 => .model206
  | 2 => .model316
  | 3 => .model506
  | 4 => .model516
  | 5 => .modelReserved5
  | 6 => .modelReserved6
  | _ => .modelReserved7

/-- The decoder, total on every code of every format. -/
def decode (x : LineContext) : Code → Except DecodeError Instr
  | .sel w => decodeSel w
  | .cell zs => decodeCell x zs
  | .word w => .ok (.word w)
  | .frame bits => .ok (.frameBits bits)
  | .value r => .ok (.raw r)
  | .status c => .ok (decodeStatus c)
  | .phase c => .ok (decodePhase c)
  | .model c => .ok (decodeModel c)

/-! ### The encoder -/

/-- `{rst, PHASE[2:0], start, zw_in}` (R92). -/
def packSel (rst : Bool) (phase : Code3) (start zw : Bool) : Sel :=
  BitVec.ofBool rst ++ phase ++ BitVec.ofBool start ++ BitVec.ofBool zw

/-- The samples of a cell from its measured durations: every run is one sample longer (R64, R96). -/
def cellSamples (lo hi : Nat) : List Bool := List.replicate (lo + 1) false ++ List.replicate (hi + 1) true

/-- The code of an operation; none for the eleven sub-operations (R92). -/
def encode : Instr → Option Code
  | .reset p st zw => some (.sel (packSel true p st zw))
  | .nop zw => some (.sel (packSel false 0 false zw))
  | .read zw => some (.sel (packSel false 0 true zw))
  | .settle st zw => some (.sel (packSel false 1 st zw))
  | .waitstb st zw => some (.sel (packSel false 2 st zw))
  | .measstb st zw => some (.sel (packSel false 3 st zw))
  | .starthi st zw => some (.sel (packSel false 4 st zw))
  | .celllo st zw => some (.sel (packSel false 5 st zw))
  | .cellhi st zw => some (.sel (packSel false 6 st zw))
  | .pwron => none
  | .pwroff => none
  | .classify => none
  | .shift _ => none
  | .wordchk _ => none
  | .parityOk _ => none
  | .frame _ => none
  | .convert _ => none
  | .rangechk _ => none
  | .finish => none
  | .abort _ => none
  | .start t g => some (.cell (cellSamples t g))
  | .sym0 lo hi => some (.cell (cellSamples lo hi))
  | .sym1 lo hi => some (.cell (cellSamples lo hi))
  | .symx lo hi => some (.cell (cellSamples lo hi))
  | .word w => some (.word w)
  | .frameBits bits => some (.frame bits)
  | .raw r => some (.value r)
  | .statusNone => some (.status 0)
  | .statusOk => some (.status 1)
  | .statusTimeout => some (.status 2)
  | .statusInvalidStrobeLength => some (.status 3)
  | .statusInvalidBitTiming => some (.status 4)
  | .statusParityError => some (.status 5)
  | .statusTempOutOfRange => some (.status 6)
  | .statusReserved => some (.status 7)
  | .phaseIdle => some (.phase 0)
  | .phaseSettle => some (.phase 1)
  | .phaseWaitStrobe => some (.phase 2)
  | .phaseMeasStrobe => some (.phase 3)
  | .phaseStartHi => some (.phase 4)
  | .phaseCellLo => some (.phase 5)
  | .phaseCellHi => some (.phase 6)
  | .phaseUnused => some (.phase 7)
  | .model306 => some (.model 0)
  | .model206 => some (.model 1)
  | .model316 => some (.model 2)
  | .model506 => some (.model 3)
  | .model516 => some (.model 4)
  | .modelReserved5 => some (.model 5)
  | .modelReserved6 => some (.model 6)
  | .modelReserved7 => some (.model 7)

/-! ### Words as the operation table numbers them -/

/-- The instruction of a word of `nbits` bits, its first byte the least significant. A word of one byte is a selector
word, which is what the machine itself selects its operation by; the status, phase and model codes are three-bit
patterns that coincide with selector words 0 to 7, and are read by `decode` in their own formats; so are the nine bits
of a word where they come padded to sixteen, as many as a raw value has (log 10). -/
def decodeTableWord (nbits w : Nat) : Option Instr :=
  if nbits ≤ 8 then
    if w < 2 ^ 6 then (decodeSel (BitVec.ofNat 6 w)).toOption else none
  else if nbits = 9 then
    if w < 2 ^ 9 then some (.word (BitVec.ofNat 9 w)) else none
  else if nbits = 16 then
    if w < 2 ^ 16 then some (.raw (BitVec.ofNat 16 w)) else none
  else if nbits = 18 ∨ nbits = 24 then
    if w < 2 ^ 18 then some (.frameBits (BitVec.ofNat 18 w)) else none
  else none

end Sys2Proof
end

