-- ==== Sys2Proof/Machine/Fetch.lean ====
section
/-! DEFINITION. How the operation of a tick is selected (`spec/10_state.md` rule R30, `spec/30_encoding.md` rule
R92): the inputs of the tick and `PHASE` form the selector word. -/

namespace Sys2Proof.Machine

/-- The inputs at a tick beyond the end of the trace: the line idles high, `rst = start = 0` (R95; log 3). -/
def idleInput : Input := { rst := false, start := false, zw := true }

/-- The inputs sampled at this tick (R62). -/
def State.sample (s : State) : Input := s.inputs.headD idleInput

/-- The trace after this tick: every input is sampled exactly once (R62). -/
def State.consume (s : State) : State := { s with inputs := s.inputs.tail }

/-- `sel = {rst, PHASE[2:0], start, zw_in}` of this tick (R92). -/
def State.selWord (s : State) : Sel := packSel s.sample.rst s.phase.code s.sample.start s.sample.zw

/-- `s` with the selector word `w` in force at the next tick: its input bits are sampled there and its `PHASE`
field is the phase. A phase code 7 leaves the phase as it is (R27). -/
def State.placeSel (s : State) (w : Sel) : State :=
  { s with
    phase := (Phase.ofCode (selPhase w)).getD s.phase
    inputs := { rst := w.getLsbD 5, start := selStart w, zw := selZw w } :: s.inputs.tail }

end Sys2Proof.Machine
end

