-- ==== Sys2Proof/Machine/Step.lean ====
section
/-! DEFINITION. One step of the machine: one tick (`spec/10_state.md` rule R30). -/

namespace Sys2Proof.Machine

/-- One tick: the inputs are sampled, the operation they and `PHASE` select is executed (R30, R92). A configuration
that breaks R9 is refused (R9, U7). -/
def step (s : State) : Host.Outcome State Fault Refusal :=
  if ConfigOk s.cfg then
    match decodeSel s.selWord with
    | .ok i => exec i s.consume
    | .error _ => .refused .noOperation
  else .refused .invalidConfiguration

/-- `s` with the selector word of `w` placed where the next step selects its operation: the next tick's inputs and
`PHASE` (log 3). The operations of the longer formats are not selected by a tick, so for them nothing is placed. -/
def State.withFetchWord (s : State) (nbits w : Nat) : State :=
  if nbits ≤ 8 then s.placeSel (BitVec.ofNat 6 w) else s

end Sys2Proof.Machine
end

