-- ==== Sys2Proof/Safety.lean ====
section
/-! DEFINITION. The terms claims use: the invariants of `spec/10_state.md` rules R42 and R43, and what it means that
the machine runs over a piece of the line. -/

namespace Sys2Proof.Machine

/-! ### R42: the sequencer -/

/-- The strobe is measured and the read goes on: START_HI, CELL_LO, CELL_HI (R42(c)). -/
abbrev InCells (s : State) : Prop := s.phase = .startHi ∨ s.phase = .cellLo ∨ s.phase = .cellHi

/-- R42(e): `CNT` stays below the budget of its phase. -/
abbrev CountWithinBudget (s : State) : Prop :=
  (s.phase = .waitStrobe → s.cnt ≤ s.cfg.strobeWaitMax - 1) ∧
  (s.phase = .measStrobe → s.cnt ≤ s.cfg.strobeMax - 1) ∧
  (s.phase = .startHi ∨ s.phase = .cellLo → s.cnt ≤ s.cfg.edgeWaitMax - 1) ∧
  (s.phase = .settle → s.cnt ≤ s.cfg.settleTicks - 1)

/-- R42, clause by clause: (a) SETTLE only with `POWER_CTRL`; (b) `NBITS`; (c) `T`; (d) the high run; (e) the budgets;
(f) the supply; (g) no status while busy; (h) no count while idle. -/
abbrev SequencerInv (s : State) : Prop :=
  (s.phase = .settle → s.cfg.powerCtrl = true) ∧
  s.nbits ≤ 8 ∧
  (InCells s → 1 ≤ s.t ∧ s.t ≤ s.cfg.strobeMax - 1) ∧
  (s.phase = .cellHi → s.cnt * s.cfg.profile.upDen < s.cfg.profile.upNum * s.t) ∧
  CountWithinBudget s ∧
  (s.pwr = true ↔ s.cfg.powerCtrl = true ∧ s.phase ≠ .idle) ∧
  (s.phase ≠ .idle → s.status = .none) ∧
  (s.phase = .idle → s.cnt = 0)

/-! ### R43: the data model -/

/-- A read ended with a converted measurement: OK or out of range. -/
abbrev Measured (s : State) : Prop := s.status = .ok ∨ s.status = .tempOutOfRange

/-- R43, with what it rests on. Without a measurement `RAW` and `TEMP_NUM` are 0. With one, `RAW` is the two bytes
received, the second word passed parity, `TEMP_NUM` is its conversion, and the status says whether it is in range.
`T` is never beyond the longest strobe; it is 0 until the strobe is measured, and no bit is held before the first data
cell (R201). -/
abbrev DataInv (s : State) : Prop :=
  (¬Measured s → s.raw = 0 ∧ s.tempNum = 0) ∧
  (Measured s →
    s.raw = joinBytes s.byteHi (dataByte s.sh) ∧ parityOk s.sh = true ∧
    s.tempNum = tempOf s.cfg.profile s.raw ∧ s.nword = 1 ∧ s.nbits = 0) ∧
  (s.status = .ok → TempInRange s.cfg.profile s.tempNum) ∧
  (s.status = .tempOutOfRange → ¬TempInRange s.cfg.profile s.tempNum) ∧
  s.t ≤ s.cfg.strobeMax - 1 ∧
  (s.phase = .settle ∨ s.phase = .waitStrobe ∨ s.phase = .measStrobe → s.t = 0) ∧
  (s.phase = .settle ∨ s.phase = .waitStrobe ∨ s.phase = .measStrobe ∨ s.phase = .startHi →
    s.sh = 0 ∧ s.nbits = 0 ∧ s.nword = 0)

/-- Every register fits its width (R9, R13, R28, R41). -/
abbrev FitsWidths (s : State) : Prop :=
  s.cnt < 2 ^ s.cfg.cntW ∧ s.t < 2 ^ s.cfg.cntW ∧ s.nbits < 2 ^ 4 ∧ FitsSigned s.cfg.tempW s.tempNum

/-! ### Runs -/

/-- The machine, given these samples of the line with `rst = start = 0` (R95), steps once for each and is then in the
state `t`, with the rest of the trace still to come. -/
def RunsTo (s : State) (zs : List Bool) (t : State) : Prop :=
  ∀ rest : List Input,
    Host.Core.run Sys2Proof.core zs.length { s with inputs := zs.map lineInput ++ rest } =
      .next { t with inputs := rest }

/-- The bound of R243 on the ticks of a read after its READ tick. -/
def latencyBound (c : Cfg) : Nat :=
  (if c.powerCtrl then c.settleTicks else 0) + c.strobeWaitMax + c.strobeMax + c.edgeWaitMax +
    cellsPerFrame * (c.edgeWaitMax + hlimMax c)

end Sys2Proof.Machine
end

