-- ==== Sys2Proof/Certificates/Slice0/Obligations.lean ====
section
/-! DEFINITION. The statements for the provers. Each names the rule of `spec/` it formalises. An equation
`exec i s = .next t` says that the operation completes, and, `t` being the whole next state, that it changes nothing
else (its frame; there is no memory, R60). -/

open Sys2Proof Sys2Proof.Machine

/-! ### The step -/

/-- R30, R92: the step executes the operation that the inputs and `PHASE` select, on the state whose inputs of this
tick have been taken. -/
def Obligations.StepRunsSelectedOperation : Prop :=
  ∀ (s : State) (i : Instr), ConfigOk s.cfg → decodeSel s.selWord = .ok i →
    step s = exec i s.consume ∧ s.consume = { s with inputs := s.inputs.tail }

/-- R30: the step rule, phase by phase, and that it is total. -/
def Obligations.StepFollowsStepRule : Prop :=
  ∀ (s : State), ConfigOk s.cfg →
    (∃ t, step s = .next t) ∧
    step s =
      (if s.sample.rst then exec (.reset s.phase.code s.sample.start s.sample.zw) s.consume
       else match s.phase with
        | .idle => if s.sample.start then exec (.read s.sample.zw) s.consume else exec (.nop s.sample.zw) s.consume
        | .settle => exec (.settle s.sample.start s.sample.zw) s.consume
        | .waitStrobe => exec (.waitstb s.sample.start s.sample.zw) s.consume
        | .measStrobe => exec (.measstb s.sample.start s.sample.zw) s.consume
        | .startHi => exec (.starthi s.sample.start s.sample.zw) s.consume
        | .cellLo => exec (.celllo s.sample.start s.sample.zw) s.consume
        | .cellHi => exec (.cellhi s.sample.start s.sample.zw) s.consume)

/-- R9, R7: a step is refused for its configuration exactly when a constraint is broken. `HLIM_MAX < 2^CNT_W` is said
without a division: some `m` below `2^CNT_W` reaches the upper bound of the longest strobe. That `PAYLOAD_BITS` and `TEMP_W`
are within their types (R7) is checked with R9, which does not list it (log 16). -/
def Obligations.BadConfigurationRefused : Prop :=
  ∀ (s : State), step s = .refused .invalidConfiguration ↔
    ¬((1 ≤ s.cfg.profile.thrNum ∧ 1 ≤ s.cfg.profile.thrDen ∧ 1 ≤ s.cfg.profile.upNum ∧ 1 ≤ s.cfg.profile.upDen ∧
        1 ≤ s.cfg.profile.scaleNum ∧ 1 ≤ s.cfg.profile.scaleDen) ∧
      s.cfg.profile.thrNum * s.cfg.profile.upDen < s.cfg.profile.upNum * s.cfg.profile.thrDen ∧
      s.cfg.profile.tmin ≤ s.cfg.profile.tmax ∧
      (1 ≤ s.cfg.profile.payloadBits ∧ s.cfg.profile.payloadBits ≤ 16) ∧
      (1 ≤ s.cfg.strobeWaitMax ∧ 2 ≤ s.cfg.strobeMax ∧ 1 ≤ s.cfg.edgeWaitMax) ∧
      (s.cfg.powerCtrl = true → 1 ≤ s.cfg.settleTicks) ∧
      (max s.cfg.strobeWaitMax (max s.cfg.strobeMax (max s.cfg.edgeWaitMax s.cfg.settleTicks)) < 2 ^ s.cfg.cntW ∧
        ∃ m, m < 2 ^ s.cfg.cntW ∧ s.cfg.profile.upNum * (s.cfg.strobeMax - 1) ≤ m * s.cfg.profile.upDen) ∧
      (1 ≤ s.cfg.tempW ∧ -(2 ^ (s.cfg.tempW - 1) : Int) ≤ -s.cfg.profile.offset * s.cfg.profile.scaleDen ∧
        65535 * (s.cfg.profile.scaleNum : Int) - s.cfg.profile.offset * s.cfg.profile.scaleDen <
          (2 ^ (s.cfg.tempW - 1) : Int)))

/-- R230, R41, R207(a): RESET in any phase, with whatever inputs, clears every register; `CFG` stays; all flags are 0. At a
tick with `rst = 1` it overrides whatever the phase would have selected. The model's own `result` is emptied too (log 4). -/
def Obligations.ResetClearsEveryRegister : Prop :=
  (∀ (p : Code3) (st zw : Bool) (s : State), ∃ t,
    exec (.reset p st zw) s = .next t ∧
    t = { phase := .idle, nbits := 0, nword := 0, cnt := 0, t := 0, sh := 0, byteHi := 0, raw := 0, tempNum := 0,
          status := .none, pwr := if s.cfg.powerCtrl then false else s.pwr,
          cfg := s.cfg, profiles := s.profiles, inputs := s.inputs, result := .nothing } ∧
    t.busy = false ∧ t.done = false ∧ t.valid = false ∧ t.vddEn = false) ∧
  (∀ (s : State), ConfigOk s.cfg → SequencerInv s → s.sample.rst = true →
    step s = .next (State.resetWith s.cfg s.profiles s.inputs.tail))

/-- R111: an idle tick changes no register, whatever the line does. -/
def Obligations.NopChangesNothing : Prop :=
  (∀ (zw : Bool) (s : State), exec (.nop zw) s = .next s) ∧
  (∀ (s : State), ConfigOk s.cfg → s.phase = .idle → s.sample.rst = false → s.sample.start = false →
    step s = .next s.consume ∧ s.busy = false ∧ s.consume.outputs = s.outputs)

/-- R110: READ clears the registers of the last read, asserts power and settles when `POWER_CTRL`, and is busy. -/
def Obligations.ReadStartsRead : Prop :=
  ∀ (zw : Bool) (s : State), ∃ t,
    exec (.read zw) s = .next t ∧
    t = { s with
          status := .none, cnt := 0, t := 0, sh := 0, nbits := 0, nword := 0, byteHi := 0, raw := 0, tempNum := 0,
          pwr := if s.cfg.powerCtrl then true else s.pwr,
          phase := if s.cfg.powerCtrl then .settle else .waitStrobe } ∧
    t.busy = true ∧ t.done = false ∧ t.valid = false

/-- R112: WAITSTB. -/
def Obligations.WaitstbFollowsRule : Prop :=
  ∀ (st zw : Bool) (s : State),
    exec (.waitstb st zw) s = .next
      (if zw = false then { s with cnt := 0, phase := .measStrobe }
       else if s.cnt = s.cfg.strobeWaitMax - 1 then s.raise .timeout
       else { s with cnt := s.cnt + 1 })

/-- R113: MEASSTB. -/
def Obligations.MeasstbFollowsRule : Prop :=
  ∀ (st zw : Bool) (s : State),
    exec (.measstb st zw) s = .next
      (if zw = false then
        if s.cnt + 1 = s.cfg.strobeMax then s.raise .timeout else { s with cnt := s.cnt + 1 }
       else if s.cnt = 0 then s.raise .invalidStrobeLength
       else { s with t := s.cnt, cnt := 0, phase := .startHi })

/-- R114: STARTHI. -/
def Obligations.StarthiFollowsRule : Prop :=
  ∀ (st zw : Bool) (s : State),
    exec (.starthi st zw) s = .next
      (if zw = true then
        if s.cnt + 1 = s.cfg.edgeWaitMax then s.raise .timeout else { s with cnt := s.cnt + 1 }
       else { s with cnt := 0, phase := .cellLo })

/-- R130: CELLLO. -/
def Obligations.CellloFollowsRule : Prop :=
  ∀ (st zw : Bool) (s : State),
    exec (.celllo st zw) s = .next
      (if zw = false then
        if s.cnt + 1 = s.cfg.edgeWaitMax then s.raise .timeout else { s with cnt := s.cnt + 1 }
       else { s with cnt := 0, phase := .cellHi })

/-- R133: CELLHI. On X at the falling edge the caller raises (R131; the model's reading, log 13), but in a state that meets
R42 the symbol there is 0 or 1, never X. -/
def Obligations.CellhiFollowsRule : Prop :=
  (∀ (st zw : Bool) (s : State),
    exec (.cellhi st zw) s =
      (if zw = true then
        if (s.cnt + 1) * s.cfg.profile.upDen ≥ s.cfg.profile.upNum * s.t then .next (s.raise .invalidBitTiming)
        else .next { s with cnt := s.cnt + 1 }
       else match classify s.cfg.profile s.cnt s.t with
        | .zero => exec (.shift false) s
        | .one => exec (.shift true) s
        | .invalid => .next (s.raise .invalidBitTiming)) ∧
    ∃ t, exec (.cellhi st zw) s = .next t) ∧
  (∀ (s : State), SequencerInv s → s.phase = .cellHi → classify s.cfg.profile s.cnt s.t ≠ .invalid)

/-- R191, R192, R193, R190: PWRON, SETTLE and PWROFF; without `POWER_CTRL` all three are void (log 12). -/
def Obligations.PowerSequencerFollowsRules : Prop :=
  ∀ (s : State),
    exec .pwron s = .next (if s.cfg.powerCtrl then { s with pwr := true, cnt := 0, phase := .settle } else s) ∧
    exec .pwroff s = .next (if s.cfg.powerCtrl then { s with pwr := false } else s) ∧
    ∀ st zw, exec (.settle st zw) s = .next
      (if s.cfg.powerCtrl then
        if s.cnt = s.cfg.settleTicks - 1 then { s with cnt := 0, phase := .waitStrobe } else { s with cnt := s.cnt + 1 }
       else s)

/-! ### The classifier -/

/-- R131: CLASSIFY as a table; the boundaries; `T = 0` as the formula gives it (R131(f) leaves it to the model: log
13); monotone in `hi`. The row by itself
changes no register (its value is kept in the model's own `result`, log 4). -/
def Obligations.ClassifyFollowsRule : Prop :=
  (∀ (p : Profile) (hi t : Nat),
    classify p hi t = (if hi * p.upDen ≥ p.upNum * t then .invalid
      else if hi * p.thrDen < p.thrNum * t then .zero else .one)) ∧
  (∀ (p : Profile) (hi : Nat), classify p hi 0 = .invalid) ∧
  (∀ (p : Profile) (hi hi' t : Nat), hi ≤ hi' →
    (classify p hi t = .invalid → classify p hi' t = .invalid) ∧
    (classify p hi t = .one → classify p hi' t ≠ .zero)) ∧
  (∀ (s : State), exec .classify s = .next { s with result := .symbol (classify s.cfg.profile s.cnt s.t) })

/-- R82: for a configuration of this hardware and `T >= 1` the three conditions are exclusive and exhaustive, so the
condition of a 0 needs no upper bound beside it; `HLIM` is the least invalid duration (R134). -/
def Obligations.SymbolsPartitionDurations : Prop :=
  ∀ (p : Profile) (hi t : Nat), RatiosPositive p → ThresholdBelowUpper p → 1 ≤ t →
    (classify p hi t = .zero ↔ hi * p.thrDen < p.thrNum * t) ∧
    (classify p hi t = .one ↔ hi * p.thrDen ≥ p.thrNum * t ∧ hi * p.upDen < p.upNum * t) ∧
    (classify p hi t = .invalid ↔ hi * p.upDen ≥ p.upNum * t) ∧
    classify p 0 t = .zero ∧
    (classify p hi t = .invalid ↔ hlim p t ≤ hi)

/-! ### The assemblers -/

/-- R150: SHIFT. -/
def Obligations.ShiftFollowsRule : Prop :=
  ∀ (b : Bool) (s : State),
    exec (.shift b) s =
      (if s.nbits < 8 then
        .next { s with sh := shiftIn s.sh b, nbits := s.nbits + 1, cnt := 0, phase := .cellLo }
       else exec (.wordchk (shiftIn s.sh b)) { s with sh := shiftIn s.sh b, nbits := 0 }) ∧
    ∃ t, exec (.shift b) s = .next t

/-- R150, R11: `{SH[7:0], bit}` bit by bit, and nine shifts replace all nine bits, the first bit ending in `w[8]`. -/
def Obligations.NineShiftsReplaceWord : Prop :=
  (∀ (sh : Word9) (b : Bool), (shiftIn sh b).getLsbD 0 = b ∧
    ∀ i, i < 8 → (shiftIn sh b).getLsbD (i + 1) = sh.getLsbD i) ∧
  (∀ (w sh : Word9), (bitsMsb w).foldl shiftIn sh = w)

/-- R151: WORDCHK. -/
def Obligations.WordchkFollowsRule : Prop :=
  ∀ (w : Word9) (s : State),
    exec (.wordchk w) s =
      (if parityOk w = false then .next (s.raise .parityError)
       else if s.nword = 0 then .next { s with byteHi := dataByte w, nword := 1, cnt := 0, phase := .cellLo }
       else exec (.frame (dataByte w)) s) ∧
    ∃ t, exec (.wordchk w) s = .next t

/-- R152: PARITY_OK is odd parity over all nine bits; flipping one bit changes it, flipping two does not. The row by
itself changes no register (its value is kept in the model's own `result`, log 4). -/
def Obligations.ParityIsOddParity : Prop :=
  (∀ (w : Word9), parityOk w =
    (w.getLsbD 8 ^^ w.getLsbD 7 ^^ w.getLsbD 6 ^^ w.getLsbD 5 ^^ w.getLsbD 4 ^^ w.getLsbD 3 ^^ w.getLsbD 2 ^^
      w.getLsbD 1 ^^ w.getLsbD 0)) ∧
  (∀ (w : Word9), parityOk w = true ↔ popcount w % 2 = 1) ∧
  (∀ (w : Word9) (i : Nat), i < 9 → parityOk (w ^^^ BitVec.twoPow 9 i) = !parityOk w) ∧
  (∀ (w : Word9) (i j : Nat), i < 9 → j < 9 → i ≠ j →
    parityOk (w ^^^ BitVec.twoPow 9 i ^^^ BitVec.twoPow 9 j) = parityOk w) ∧
  (∀ (w : Word9) (s : State), exec (.parityOk w) s = .next { s with result := .parity (parityOk w) })

/-- R153: FRAME. -/
def Obligations.FrameFollowsRule : Prop :=
  ∀ (d : Byte) (s : State),
    exec (.frame d) s = exec (.convert (s.byteHi ++ d)) { s with raw := s.byteHi ++ d } ∧
    (s.byteHi ++ d : Raw16).toNat = s.byteHi.toNat * 256 + d.toNat ∧
    ∃ t, exec (.frame d) s = .next t

/-- R85: the raw value is all sixteen bits of `{h, l}`, never masked to `PAYLOAD_BITS`. That the row executed by itself
writes `RAW` and nothing else is the model's choice (log 5). -/
def Obligations.RawRowKeepsAllBits : Prop :=
  ∀ (h l : Byte) (s : State),
    exec (.raw (joinBytes h l)) s = .next { s with raw := h ++ l } ∧
    (joinBytes h l).extractLsb' 8 8 = h ∧ (joinBytes h l).extractLsb' 0 8 = l

/-- R155: `ENC` is a bijection between the raw values and the eighteen-bit frames whose two words have odd parity. -/
def Obligations.ValidFramesAreEncodings : Prop :=
  (∀ (r : Raw16), ∃ w0 w1 : Word9, encodeFrame r = joinWords w0 w1 ∧ parityOk w0 = true ∧ parityOk w1 = true ∧
    joinBytes (dataByte w0) (dataByte w1) = r) ∧
  (∀ (w0 w1 : Word9), parityOk w0 = true → parityOk w1 = true →
    ∃! r : Raw16, encodeFrame r = joinWords w0 w1)

/-! ### The converter -/

/-- R170, R86: CONVERT; `RAW` is unsigned and enters whole. -/
def Obligations.ConvertFollowsRule : Prop :=
  ∀ (r : Raw16) (s : State),
    exec (.convert r) s =
      exec (.rangechk ((r.toNat : Int) * s.cfg.profile.scaleNum - s.cfg.profile.offset * s.cfg.profile.scaleDen))
        { s with
          tempNum := (r.toNat : Int) * s.cfg.profile.scaleNum - s.cfg.profile.offset * s.cfg.profile.scaleDen } ∧
    ∃ t, exec (.convert r) s = .next t

/-- R171: RANGECHK, both bounds inclusive. -/
def Obligations.RangechkFollowsRule : Prop :=
  ∀ (tn : Int) (s : State),
    exec (.rangechk tn) s =
      (if s.cfg.profile.tmin * s.cfg.profile.scaleDen ≤ tn ∧ tn ≤ s.cfg.profile.tmax * s.cfg.profile.scaleDen then
        exec .finish s
       else .next (s.raise .temperatureOutOfRange)) ∧
    ∃ t, exec (.rangechk tn) s = .next t

/-- R174: the range as a range of raw values; for the illustrated constants it is 0 to 2047. -/
def Obligations.RangeFormsAgree : Prop :=
  (∀ (p : Profile) (r : Raw16), 1 ≤ p.scaleNum →
    (TempInRange p (tempOf p r) ↔
      max 0 (-((-((p.tmin + p.offset) * p.scaleDen)) / (p.scaleNum : Int))) ≤ (r.toNat : Int) ∧
      (r.toNat : Int) ≤ min 65535 ((p.tmax + p.offset) * p.scaleDen / (p.scaleNum : Int)))) ∧
  (∀ (r : Raw16), TempInRange Profile.ref306 (tempOf Profile.ref306 r) ↔ r.toNat ≤ 2047)

/-- R172: FINISH. -/
def Obligations.FinishFollowsRule : Prop :=
  ∀ (s : State), ∃ t,
    exec .finish s = .next t ∧
    t = { s with status := .ok, phase := .idle, cnt := 0, pwr := if s.cfg.powerCtrl then false else s.pwr } ∧
    t.busy = false ∧ t.done = true ∧ t.valid = true ∧ t.vddEn = false

/-! ### Exceptions and codes -/

/-- R204, R200: ABORT records the code of the exception, goes to IDLE, switches the supply off, and leaves every other
register alone. -/
def Obligations.AbortFollowsRule : Prop :=
  ∀ (e : Exc) (s : State), ∃ t,
    exec (.abort e) s = .next t ∧ s.raise e = t ∧
    t = { s with
          status := (match e with
            | .timeout => .timeout
            | .invalidStrobeLength => .invalidStrobeLength
            | .invalidBitTiming => .invalidBitTiming
            | .parityError => .parityError
            | .temperatureOutOfRange => .tempOutOfRange)
          phase := .idle, cnt := 0, pwr := if s.cfg.powerCtrl then false else s.pwr } ∧
    t.status.code = (match e with
      | .timeout => 2
      | .invalidStrobeLength => 3
      | .invalidBitTiming => 4
      | .parityError => 5
      | .temperatureOutOfRange => 6) ∧
    t.busy = false ∧ t.done = true ∧ t.valid = false ∧ t.vddEn = false

/-- The model's choice (log 6): a STATUS row is executed as what records its code. OK is FINISH, an exception's code is
ABORT with that exception, NONE is the write of `STATUS` alone. -/
def Obligations.StatusRowsRecordCodes : Prop :=
  ∀ (s : State),
    exec .statusNone s = .next { s with status := .none } ∧
    exec .statusOk s = .next { s with
      status := .ok, phase := .idle, cnt := 0, pwr := if s.cfg.powerCtrl then false else s.pwr } ∧
    exec .statusTimeout s = .next { s with
      status := .timeout, phase := .idle, cnt := 0, pwr := if s.cfg.powerCtrl then false else s.pwr } ∧
    exec .statusInvalidStrobeLength s = .next { s with
      status := .invalidStrobeLength, phase := .idle, cnt := 0, pwr := if s.cfg.powerCtrl then false else s.pwr } ∧
    exec .statusInvalidBitTiming s = .next { s with
      status := .invalidBitTiming, phase := .idle, cnt := 0, pwr := if s.cfg.powerCtrl then false else s.pwr } ∧
    exec .statusParityError s = .next { s with
      status := .parityError, phase := .idle, cnt := 0, pwr := if s.cfg.powerCtrl then false else s.pwr } ∧
    exec .statusTempOutOfRange s = .next { s with
      status := .tempOutOfRange, phase := .idle, cnt := 0, pwr := if s.cfg.powerCtrl then false else s.pwr }

/-- The model's choice (log 7): a PHASE row is executed as the control transfer `PHASE <- p` of R12, with `CNT` set to 0
when `PHASE` changes (R21); SETTLE is void without `POWER_CTRL` (R190). -/
def Obligations.PhaseRowsTransferControl : Prop :=
  ∀ (s : State),
    exec .phaseIdle s = .next { s with phase := .idle, cnt := if s.phase = .idle then s.cnt else 0 } ∧
    exec .phaseSettle s = .next (if s.cfg.powerCtrl then
      { s with phase := .settle, cnt := if s.phase = .settle then s.cnt else 0 } else s) ∧
    exec .phaseWaitStrobe s =
      .next { s with phase := .waitStrobe, cnt := if s.phase = .waitStrobe then s.cnt else 0 } ∧
    exec .phaseMeasStrobe s =
      .next { s with phase := .measStrobe, cnt := if s.phase = .measStrobe then s.cnt else 0 } ∧
    exec .phaseStartHi s = .next { s with phase := .startHi, cnt := if s.phase = .startHi then s.cnt else 0 } ∧
    exec .phaseCellLo s = .next { s with phase := .cellLo, cnt := if s.phase = .cellLo then s.cnt else 0 } ∧
    exec .phaseCellHi s = .next { s with phase := .cellHi, cnt := if s.phase = .cellHi then s.cnt else 0 }

/-- R89, R176, R245 (log 8): between reads a MODEL row selects its row of the profile table and has no other effect, for every
table that gives the model's constants and every configuration that results in one of this hardware. -/
def Obligations.ModelRowsSelectProfiles : Prop :=
  ∀ (s : State) (p : Profile), s.phase = .idle →
    (s.profiles.p306 = some p → ConfigOk { s.cfg with model := .m306, profile := p } →
      exec .model306 s = .next { s with cfg := { s.cfg with model := .m306, profile := p } }) ∧
    (s.profiles.p206 = some p → ConfigOk { s.cfg with model := .m206, profile := p } →
      exec .model206 s = .next { s with cfg := { s.cfg with model := .m206, profile := p } }) ∧
    (s.profiles.p316 = some p → ConfigOk { s.cfg with model := .m316, profile := p } →
      exec .model316 s = .next { s with cfg := { s.cfg with model := .m316, profile := p } }) ∧
    (s.profiles.p506 = some p → ConfigOk { s.cfg with model := .m506, profile := p } →
      exec .model506 s = .next { s with cfg := { s.cfg with model := .m506, profile := p } }) ∧
    (s.profiles.p516 = some p → ConfigOk { s.cfg with model := .m516, profile := p } →
      exec .model516 s = .next { s with cfg := { s.cfg with model := .m516, profile := p } })

/-- U4, U6, U7, R245 (log 8): where a MODEL row is refused: without constants; with a configuration that breaks R9; with a change
of the configuration during a read. -/
def Obligations.ModelRowsRefuse : Prop :=
  ∀ (s : State) (m : Model) (i : Instr),
    (m, i) ∈ [(.m306, .model306), (.m206, .model206), (.m316, .model316), (.m506, .model506), (.m516, .model516)] →
    (profileOf s.profiles m = none → exec i s = .refused .modelWithoutConstants) ∧
    (∀ p, profileOf s.profiles m = some p →
      (¬ConfigOk { s.cfg with model := m, profile := p } → exec i s = .refused .invalidConfiguration) ∧
      (ConfigOk { s.cfg with model := m, profile := p } → s.phase ≠ .idle →
        { s.cfg with model := m, profile := p } ≠ s.cfg → exec i s = .refused .configChangedDuringRead))

/-- The reserved codes are refused in every state. For MODEL codes 5 to 7 R89 says so. R87 and R88 say of code 7 of STATUS
and of PHASE only that it is never produced and unused; that those two rows are refused is the model's reading (log 9). -/
def Obligations.ReservedCodesRefused : Prop :=
  ∀ (s : State),
    exec .statusReserved s = .refused .reservedStatusCode ∧
    exec .phaseUnused s = .refused .reservedPhaseCode ∧
    exec .modelReserved5 s = .refused .reservedModelCode ∧
    exec .modelReserved6 s = .refused .reservedModelCode ∧
    exec .modelReserved7 s = .refused .reservedModelCode

/-! ### Ports -/

/-- R34, R35, R61: the output ports as functions of the registers; the status port is never 7 (R87). -/
def Obligations.PortsFollowRegisters : Prop :=
  ∀ (s : State),
    (s.outputs.busy = true ↔ s.phase ≠ .idle) ∧
    (s.outputs.done = true ↔ s.phase = .idle ∧ s.status ≠ .none) ∧
    (s.outputs.valid = true ↔ s.phase = .idle ∧ s.status = .ok) ∧
    s.outputs.raw = s.raw ∧ s.outputs.tempNum = s.tempNum ∧
    s.outputs.vddEn = (if s.cfg.powerCtrl then s.pwr else false) ∧
    s.outputs.status = (match s.status with
      | .none => 0 | .ok => 1 | .timeout => 2 | .invalidStrobeLength => 3 | .invalidBitTiming => 4
      | .parityError => 5 | .tempOutOfRange => 6) ∧
    s.outputs.status ≠ 7

/-! ### The cells, the word and the frame -/

/-- R81, R113: from WAIT_STROBE a well-formed start cell gives `T` its strobe and leaves the decoder in START_HI (that the
row START is executed as the samples of its cell is the model's choice, log 5). -/
def Obligations.StartCellMeasuresStrobe : Prop :=
  ∀ (s : State) (t g : Nat), s.phase = .waitStrobe → 1 ≤ t → t + 1 ≤ s.cfg.strobeMax → g + 1 ≤ s.cfg.edgeWaitMax →
    exec (.start t g) s = .next { s with t := t, phase := .startHi, cnt := g }

/-- R82, R134, R203, R133: the data cells, the first and the later ones (that a SYM row is executed as the samples of its
cell is the model's choice, log 5). The first data cell follows the start cell: with symbol 0 or 1 it leaves the decoder in
CELL_HI with `hi` measured, and the falling edge then delivers its bit to SHIFT; with symbol X it ends the read with
InvalidBitTiming. A later data cell begins in CELL_HI: its first low sample is the falling edge of the cell before, which
leads to `u`; if the read goes on there, the cell does from `u` what the first one does, and if the falling edge ended the
read, nothing of the cell is examined. -/
def Obligations.DataCellRowsDeliverSymbols : Prop :=
  (∀ (s : State) (lo hi : Nat), s.phase = .startHi → 1 ≤ s.cfg.profile.upNum → 1 ≤ s.t →
    lo + 1 ≤ s.cfg.edgeWaitMax →
    (classify s.cfg.profile hi s.t = .zero →
      exec (.sym0 lo hi) s = .next { s with phase := .cellHi, cnt := hi } ∧
      ∀ st, exec (.cellhi st false) { s with phase := .cellHi, cnt := hi } =
        exec (.shift false) { s with phase := .cellHi, cnt := hi }) ∧
    (classify s.cfg.profile hi s.t = .one →
      exec (.sym1 lo hi) s = .next { s with phase := .cellHi, cnt := hi } ∧
      ∀ st, exec (.cellhi st false) { s with phase := .cellHi, cnt := hi } =
        exec (.shift true) { s with phase := .cellHi, cnt := hi }) ∧
    (classify s.cfg.profile hi s.t = .invalid →
      exec (.symx lo hi) s = .next (s.raise .invalidBitTiming))) ∧
  (∀ (s u : State) (lo hi : Nat), s.phase = .cellHi → exec (.cellhi false false) s = .next u →
    1 ≤ s.cfg.profile.upNum → 1 ≤ s.t → lo + 1 ≤ s.cfg.edgeWaitMax →
    (u.phase = .cellLo ∨ u.phase = .idle) ∧
    (u.phase = .cellLo →
      (classify u.cfg.profile hi u.t = .zero →
        exec (.sym0 lo hi) s = .next { u with phase := .cellHi, cnt := hi } ∧
        ∀ st, exec (.cellhi st false) { u with phase := .cellHi, cnt := hi } =
          exec (.shift false) { u with phase := .cellHi, cnt := hi }) ∧
      (classify u.cfg.profile hi u.t = .one →
        exec (.sym1 lo hi) s = .next { u with phase := .cellHi, cnt := hi } ∧
        ∀ st, exec (.cellhi st false) { u with phase := .cellHi, cnt := hi } =
          exec (.shift true) { u with phase := .cellHi, cnt := hi }) ∧
      (classify u.cfg.profile hi u.t = .invalid →
        exec (.symx lo hi) s = .next (u.raise .invalidBitTiming))) ∧
    (u.phase = .idle →
      exec (.sym0 lo hi) s = .next u ∧ exec (.sym1 lo hi) s = .next u ∧ exec (.symx lo hi) s = .next u))

/-- R80, R95, R96: a cell row does what the machine does, step by step, over the samples of its cell (that a cell row is
executed as its samples is the model's choice, log 5). -/
def Obligations.CellRowsAreTheirSamples : Prop :=
  ∀ (s : State) (lo hi : Nat), ConfigOk s.cfg → ∃ t,
    RunsTo s (low (lo + 1) ++ high (hi + 1)) t ∧
    exec (.start lo hi) s = .next { t with inputs := s.inputs } ∧
    exec (.sym0 lo hi) s = .next { t with inputs := s.inputs } ∧
    exec (.sym1 lo hi) s = .next { t with inputs := s.inputs } ∧
    exec (.symx lo hi) s = .next { t with inputs := s.inputs }

/-- R83, R150, R151: the nine bits of a word, delivered from its first bit on, leave the word in `SH`, and then its parity
is checked. Outside the cells of a read nothing is delivered (the model's choice, log 5). -/
def Obligations.WordRowFillsWord : Prop :=
  ∀ (s : State) (w : Word9),
    (∃ t, exec (.word w) s = .next t) ∧
    (InCells s → s.nbits = 0 →
      exec (.word w) s = exec (.wordchk w) { s with sh := w, cnt := 0, phase := .cellLo }) ∧
    (¬InCells s → exec (.word w) s = .next s)

/-- R155, R153, R170, R171: the eighteen bits `ENC(r)` delivered from the first on yield `RAW = r`, the conversion of `r`,
and the outcome of the range check (that the row FRAME_BITS is executed as the delivery of its bits is the model's choice,
log 5; frames whose parity fails are in `FrameRowChecksBothWords`). -/
def Obligations.FrameRowYieldsRaw : Prop :=
  ∀ (s : State) (r : Raw16), InCells s → s.nbits = 0 → s.nword = 0 →
    exec (.frameBits (encodeFrame r)) s = .next { s with
      sh := encodeWord (r.extractLsb' 0 8), nbits := 0, nword := 1, byteHi := r.extractLsb' 8 8, raw := r,
      tempNum := tempOf s.cfg.profile r,
      status := if TempInRange s.cfg.profile (tempOf s.cfg.profile r) then .ok else .tempOutOfRange,
      phase := .idle, cnt := 0, pwr := if s.cfg.powerCtrl then false else s.pwr }

/-- R151, R153, R204, R207(d): the eighteen bits of any two words, delivered from the first on. Bad parity in word 0 ends the
read with ParityError, word 0 in `SH`, and word 1 is not delivered; bad parity in word 1 ends it with ParityError, word 1
in `SH` and byte 0 in `BYTE_HI`; `RAW` and `TEMP_NUM` are left alone in both. Two good words are assembled, converted and
checked. Every eighteen bits are two such words. That the row is executed as the delivery of its bits, and that outside the
cells of a read nothing is delivered, is the model's choice (log 5). -/
def Obligations.FrameRowChecksBothWords : Prop :=
  (∀ (bits : Frame18), joinWords (bits.extractLsb' 9 9) (bits.extractLsb' 0 9) = bits) ∧
  (∀ (s : State) (bits : Frame18), ∃ t, exec (.frameBits bits) s = .next t) ∧
  (∀ (s : State) (w0 w1 : Word9),
    (¬InCells s → exec (.frameBits (joinWords w0 w1)) s = .next s) ∧
    (InCells s → s.nbits = 0 → s.nword = 0 →
      (parityOk w0 = false →
        exec (.frameBits (joinWords w0 w1)) s = .next ({ s with sh := w0 }.raise .parityError)) ∧
      (parityOk w0 = true → parityOk w1 = false →
        exec (.frameBits (joinWords w0 w1)) s =
          .next ({ s with sh := w1, byteHi := dataByte w0, nword := 1 }.raise .parityError)) ∧
      (parityOk w0 = true → parityOk w1 = true →
        exec (.frameBits (joinWords w0 w1)) s =
          exec (.convert (joinBytes (dataByte w0) (dataByte w1)))
            { s with
              sh := w1, byteHi := dataByte w0, nword := 1, raw := joinBytes (dataByte w0) (dataByte w1),
              phase := .cellLo, cnt := 0 })))

/-- R154: what the registers hold after `k` bits of a read that has not ended. -/
def Obligations.BitsFillRegisters : Prop :=
  ∀ (s : State) (bits : List Bool), InCells s → s.nbits = 0 → s.nword = 0 → bits.length ≤ 17 →
    InCells (deliverBits bits s) →
    (deliverBits bits s).nword.val = bits.length / 9 ∧
    (deliverBits bits s).nbits = bits.length % 9 ∧
    (∀ j, j < bits.length % 9 → (deliverBits bits s).sh.getLsbD j = bits.getD (bits.length - 1 - j) false) ∧
    (bits.length / 9 = 1 → ∀ j, j < 8 → (deliverBits bits s).byteHi.getMsbD j = bits.getD j false)

/-! ### Runs over the line -/

/-- R115: the run-length view of the strobe stage: an idle line, a strobe of one sample, a line stuck low, a start cell that
never ends, and a good start cell. -/
def Obligations.StrobeRunLengthView : Prop :=
  ∀ (s : State) (a n g : Nat), ConfigOk s.cfg → s.phase = .waitStrobe → s.cnt = 0 → 1 ≤ n → 1 ≤ g →
    (a ≥ s.cfg.strobeWaitMax → RunsTo s (high s.cfg.strobeWaitMax) (s.raise .timeout)) ∧
    (a < s.cfg.strobeWaitMax →
      (n = 1 → RunsTo s (high a ++ low 1 ++ high 1) (s.raise .invalidStrobeLength)) ∧
      (n ≥ s.cfg.strobeMax + 1 → RunsTo s (high a ++ low (s.cfg.strobeMax + 1)) (s.raise .timeout)) ∧
      (2 ≤ n → n ≤ s.cfg.strobeMax →
        (g ≥ s.cfg.edgeWaitMax + 1 →
          RunsTo s (high a ++ low n ++ high (s.cfg.edgeWaitMax + 1)) ({ s with t := n - 1 }.raise .timeout)) ∧
        (g ≤ s.cfg.edgeWaitMax →
          RunsTo s (high a ++ low n ++ high g ++ low 1) { s with t := n - 1, phase := .cellLo, cnt := 0 })))

/-- R134: the run-length view of a data cell of `l` low and `m` high samples, entered on its first low sample. -/
def Obligations.CellRunLengthView : Prop :=
  ∀ (s : State) (l m : Nat), ConfigOk s.cfg → s.phase = .cellLo → s.cnt = 0 → 1 ≤ s.t → 1 ≤ l → 1 ≤ m →
    (l ≥ s.cfg.edgeWaitMax + 1 → RunsTo s (low s.cfg.edgeWaitMax) (s.raise .timeout)) ∧
    (l ≤ s.cfg.edgeWaitMax →
      (classify s.cfg.profile (m - 1) s.t = .invalid →
        hlim s.cfg.profile s.t + 1 ≤ m ∧
        RunsTo s (low (l - 1) ++ high (hlim s.cfg.profile s.t + 1)) (s.raise .invalidBitTiming)) ∧
      (classify s.cfg.profile (m - 1) s.t = .zero →
        RunsTo s (low (l - 1) ++ high m ++ low 1) (shift false { s with phase := .cellHi, cnt := m - 1 })) ∧
      (classify s.cfg.profile (m - 1) s.t = .one →
        RunsTo s (low (l - 1) ++ high m ++ low 1) (shift true { s with phase := .cellHi, cnt := m - 1 })))

/-- R194, R192: with `POWER_CTRL`, after READ the supply is on and `SETTLE_TICKS` ticks pass whose line samples (and
`start`) do not matter, then the decoder waits for the strobe. -/
def Obligations.SettleDelayPrecedesFirstSample : Prop :=
  ∀ (s : State) (zw : Bool) (ins rest : List Input), ConfigOk s.cfg → s.cfg.powerCtrl = true → s.phase = .idle →
    (∀ i ∈ ins, i.rst = false) → ins.length = s.cfg.settleTicks →
    s.inputs = { rst := false, start := true, zw := zw } :: (ins ++ rest) →
    (∀ k, k < ins.length → ∃ u, Host.Core.run core (k + 1) s = .next u ∧ u.phase = .settle ∧ u.cnt = k ∧
      u.vddEn = true) ∧
    (∃ u, Host.Core.run core (s.cfg.settleTicks + 1) s = .next u ∧ u.phase = .waitStrobe ∧ u.cnt = 0 ∧
      u.vddEn = true ∧ u.inputs = rest)

/-- R175, R248, R240: from WAIT_STROBE, `a` idle samples and then the frame `FRAME[t](r)` decode to `r` and its temperature,
in exactly the samples of R248: after all of them but the last, END, the read is still busy in the eighteenth data cell with
seventeen bits received (R240). For every raw value, every strobe within the budgets and every configuration under which the
reference shapes are a 0 and a 1. -/
def Obligations.FrameTraceDecodes : Prop :=
  ∀ (s : State) (a t : Nat) (r : Raw16), ConfigOk s.cfg → s.phase = .waitStrobe → s.cnt = 0 → s.nbits = 0 →
    s.nword = 0 → a < s.cfg.strobeWaitMax → 1 ≤ t → t + 1 ≤ s.cfg.strobeMax → t + 1 ≤ s.cfg.edgeWaitMax →
    classify s.cfg.profile t t = .zero → classify s.cfg.profile (2 * t) t = .one →
    RunsTo s (high a ++ frameTrace t r) { s with
      t := t, sh := encodeWord (r.extractLsb' 0 8), nbits := 0, nword := 1, byteHi := r.extractLsb' 8 8, raw := r,
      tempNum := tempOf s.cfg.profile r,
      status := if TempInRange s.cfg.profile (tempOf s.cfg.profile r) then .ok else .tempOutOfRange,
      phase := .idle, cnt := 0, pwr := if s.cfg.powerCtrl then false else s.pwr } ∧
    (∃ u, RunsTo s (high a ++ frameTrace t r).dropLast u ∧ u.phase = .cellHi ∧ u.busy = true ∧ u.nword = 1 ∧ u.nbits = 8) ∧
    (high a ++ frameTrace t r).length =
      a + (2 * t + 2) + (18 - popcount (encodeFrame r)) * (2 * t + 2) + popcount (encodeFrame r) * (3 * t + 2) + 1

/-- R243, R218: a read that is not reset ends, with a result, within the bound of R243. A trace shorter than the read is
continued by the idle line (R95; log 3). -/
def Obligations.ReadEndsWithinBound : Prop :=
  ∀ (s : State), ConfigOk s.cfg → s.phase = .idle → s.sample.start = true → (∀ i ∈ s.inputs, i.rst = false) →
    ∃ k u, 1 ≤ k ∧ k ≤ latencyBound s.cfg ∧ Host.Core.run core (k + 1) s = .next u ∧ u.phase = .idle ∧
      u.status ≠ .none

/-- R69, R208, R237: the outputs hold until the next READ or RESET: `n` idle ticks change no register. -/
def Obligations.ResultsHeldWhileIdle : Prop :=
  ∀ (n : Nat) (s : State), ConfigOk s.cfg → s.phase = .idle →
    (∀ i ∈ s.inputs.take n, i.rst = false ∧ i.start = false) →
    Host.Core.run core n s = .next { s with inputs := s.inputs.drop n }

/-! ### The whole machine -/

/-- R41, R42, R43: the reset state of every machine whose configuration has budgets meets both invariants. -/
def Obligations.ResetMeetsInvariants : Prop :=
  ∀ (c : Cfg) (p : ProfileTable) (ins : List Input),
    SequencerInv (State.resetWith c p ins) ∧ DataInv (State.resetWith c p ins)

/-- R42: every step keeps the sequencer's invariant, from every state that meets it. -/
def Obligations.StepKeepsSequencerInvariant : Prop :=
  ∀ (s t : State), SequencerInv s → step s = .next t → SequencerInv t

/-- R43: every step keeps the data model's invariant, from every state that meets both. -/
def Obligations.StepKeepsDataInvariant : Prop :=
  ∀ (s t : State), SequencerInv s → DataInv s → step s = .next t → DataInv t

/-- R9, R13: no counter and no result ever wraps: in a state that meets the invariants every register fits its width. -/
def Obligations.RegistersFitWidths : Prop :=
  ∀ (s : State), ConfigOk s.cfg → SequencerInv s → DataInv s → FitsWidths s

/-- R31: the phase transition table. -/
def Obligations.PhaseTransitionTable : Prop :=
  ∀ (s : State), ConfigOk s.cfg → SequencerInv s → ∃ t, step s = .next t ∧
    (t.phase, t.status) =
      (if s.sample.rst then (.idle, .none)
       else match s.phase with
        | .idle =>
          if s.sample.start then (if s.cfg.powerCtrl then .settle else .waitStrobe, .none) else (.idle, s.status)
        | .settle => (if s.cnt < s.cfg.settleTicks - 1 then .settle else .waitStrobe, .none)
        | .waitStrobe =>
          if s.sample.zw = false then (.measStrobe, .none)
          else if s.cnt < s.cfg.strobeWaitMax - 1 then (.waitStrobe, .none) else (.idle, .timeout)
        | .measStrobe =>
          if s.sample.zw = false then
            if s.cnt + 1 < s.cfg.strobeMax then (.measStrobe, .none) else (.idle, .timeout)
          else if s.cnt = 0 then (.idle, .invalidStrobeLength) else (.startHi, .none)
        | .startHi =>
          if s.sample.zw = false then (.cellLo, .none)
          else if s.cnt + 1 < s.cfg.edgeWaitMax then (.startHi, .none) else (.idle, .timeout)
        | .cellLo =>
          if s.sample.zw = true then (.cellHi, .none)
          else if s.cnt + 1 < s.cfg.edgeWaitMax then (.cellLo, .none) else (.idle, .timeout)
        | .cellHi =>
          if s.sample.zw = true then
            if (s.cnt + 1) * s.cfg.profile.upDen < s.cfg.profile.upNum * s.t then (.cellHi, .none)
            else (.idle, .invalidBitTiming)
          else if s.nbits < 8 then (.cellLo, .none)
          else
            let w := shiftIn s.sh (classify s.cfg.profile s.cnt s.t == .one)
            if parityOk w = false then (.idle, .parityError)
            else if s.nword = 0 then (.cellLo, .none)
            else if TempInRange s.cfg.profile (tempOf s.cfg.profile (joinBytes s.byteHi (dataByte w))) then (.idle, .ok)
            else (.idle, .tempOutOfRange))

/-- R200 to R206: the cause of each exception (its phase, the sample and, for a budget or a bound, that it is exhausted or
reached) and what it leaves as its record. `T` tells a timeout before the end of the strobe from a later one. -/
def Obligations.ExceptionsComeFromTheirCauses : Prop :=
  ∀ (s t : State), SequencerInv s → DataInv s → s.phase ≠ .idle → step s = .next t → t.phase = .idle →
    s.sample.rst = false →
    (t.status = .timeout →
      (s.phase = .waitStrobe ∧ s.sample.zw = true ∧ s.cnt + 1 = s.cfg.strobeWaitMax ∧ t.t = 0 ∨
       s.phase = .measStrobe ∧ s.sample.zw = false ∧ s.cnt + 1 = s.cfg.strobeMax ∧ t.t = 0 ∨
       s.phase = .startHi ∧ s.sample.zw = true ∧ s.cnt + 1 = s.cfg.edgeWaitMax ∧
         1 ≤ t.t ∧ t.nword = 0 ∧ t.nbits = 0 ∧ t.sh = 0 ∨
       s.phase = .cellLo ∧ s.sample.zw = false ∧ s.cnt + 1 = s.cfg.edgeWaitMax ∧
         1 ≤ t.t ∧ t.nword = s.nword ∧ t.nbits = s.nbits)) ∧
    (t.status = .invalidStrobeLength → s.phase = .measStrobe ∧ s.sample.zw = true ∧ s.cnt = 0 ∧ t.t = 0) ∧
    (t.status = .invalidBitTiming → s.phase = .cellHi ∧ s.sample.zw = true ∧
      (s.cnt + 1) * s.cfg.profile.upDen ≥ s.cfg.profile.upNum * s.t ∧ t.nbits = s.nbits ∧ t.nword = s.nword) ∧
    (t.status = .parityError → s.phase = .cellHi ∧ s.sample.zw = false ∧ s.nbits = 8 ∧ parityOk t.sh = false ∧
      t.nword = s.nword ∧ t.nbits = 0 ∧ t.raw = 0 ∧ t.tempNum = 0) ∧
    (t.status = .tempOutOfRange → s.phase = .cellHi ∧ s.sample.zw = false ∧ s.nbits = 8 ∧ s.nword = 1 ∧
      parityOk t.sh = true ∧ t.raw = joinBytes s.byteHi (dataByte t.sh) ∧
      t.tempNum = tempOf s.cfg.profile t.raw ∧ ¬TempInRange s.cfg.profile t.tempNum)

/-- R43, R172(c), R151: OK is recorded only by the falling edge of the last cell of a read whose second word passed parity
and whose temperature is in range, `RAW` being then the two bytes; and `NWORD` was 1 there because the first word had
passed, which is the only way it becomes 1. -/
def Obligations.OkOnlyAfterWholeFrame : Prop :=
  ∀ (s t : State), SequencerInv s → step s = .next t →
    (t.status = .ok → s.status ≠ .ok →
      s.phase = .cellHi ∧ s.sample.rst = false ∧ s.sample.zw = false ∧ s.nbits = 8 ∧ s.nword = 1 ∧
      parityOk t.sh = true ∧ t.raw = joinBytes s.byteHi (dataByte t.sh) ∧
      t.tempNum = tempOf s.cfg.profile t.raw ∧ TempInRange s.cfg.profile t.tempNum ∧ t.phase = .idle) ∧
    (s.nword = 0 → t.nword = 1 →
      s.phase = .cellHi ∧ s.nbits = 8 ∧ parityOk t.sh = true ∧ t.byteHi = dataByte t.sh)

/-- R33, R34, R218, R193(b): after a tick that is not reset, of a read in progress, either the read goes on, `busy`, without a
status, or it has ended, `done`, with one; and the supply is on exactly while `busy`. -/
def Obligations.PortsTellProgress : Prop :=
  ∀ (s t : State), SequencerInv s → step s = .next t →
    (s.phase ≠ .idle → s.sample.rst = false →
      (t.busy = true ↔ t.status = .none) ∧ (t.done = true ↔ t.status ≠ .none)) ∧
    t.vddEn = (t.cfg.powerCtrl && t.busy)

/-- R62, R30, U12, U13: inputs that are not examined have no effect: `start` outside IDLE, `zw_in` in IDLE and SETTLE, both
at a reset tick. -/
def Obligations.UnexaminedInputsIgnored : Prop :=
  ∀ (s : State) (i j : Input) (rest : List Input), i.rst = j.rst →
    (i.rst = true ∨
      ((s.phase = .idle → i.start = j.start) ∧
        (s.phase ≠ .idle → s.phase ≠ .settle → i.zw = j.zw))) →
    step { s with inputs := i :: rest } = step { s with inputs := j :: rest }

/-- R110(d): nothing of an earlier read influences a later one: two idle machines of one construction are in the same state
after READ, but for the model's own `result`. -/
def Obligations.ReadsAreIndependent : Prop :=
  ∀ (s u : State), ConfigOk s.cfg → SequencerInv s → SequencerInv u → s.phase = .idle → u.phase = .idle →
    s.cfg = u.cfg → s.profiles = u.profiles → s.inputs = u.inputs → s.sample.start = true →
    ∃ s' u', step s = .next s' ∧ step u = .next u' ∧ { s' with result := u'.result } = u'

/-- R37, R230(d): no tick changes the configuration, or the profile table, which is a field of the model (log 2), and each takes
exactly one input (R62; the list of inputs is the model's, log 3). The model's own field `result` changes at a reset only
(log 4). -/
def Obligations.ConfigurationIsImmutable : Prop :=
  ∀ (s t : State), step s = .next t →
    t.cfg = s.cfg ∧ t.profiles = s.profiles ∧ t.inputs = s.inputs.tail ∧
    (t.result = s.result ∨ s.sample.rst = true)

/-- R70, R95: a run of the machine over an input trace is the step rule of R30 folded over it. -/
def Obligations.RunIsFoldOfTicks : Prop :=
  ∀ (s : State) (ins rest : List Input), ConfigOk s.cfg → s.inputs = ins ++ rest →
    Host.Core.run core ins.length s = .next { ticks ins s with inputs := rest }

/-! ### Encoding -/

/-- R80 to R92: decoding the code of a well-formed operation gives it back, with every operand. -/
def Obligations.DecodeEncodeRoundTrip : Prop :=
  ∀ (x : LineContext) (i : Instr) (c : Code), i.wf x = true → encode i = some c → decode x c = .ok i

/-- R80 to R92: what a code decodes to is well formed and has that code: every code has one meaning in its format. -/
def Obligations.EncodeDecodeRoundTrip : Prop :=
  ∀ (x : LineContext) (c : Code) (i : Instr), decode x c = .ok i → i.wf x = true ∧ encode i = some c

/-- R92, R83, R87 to R89: words written out bit by bit from the tables decode to what they stand for. -/
def Obligations.WrittenWordsDecode : Prop :=
  ∀ (x : LineContext),
    decode x (.sel 0b101110) = .ok (.reset 0b011 true false) ∧
    decode x (.sel 0b000001) = .ok (.nop true) ∧
    decode x (.sel 0b000010) = .ok (.read false) ∧
    decode x (.sel 0b000110) = .ok (.settle true false) ∧
    decode x (.sel 0b001001) = .ok (.waitstb false true) ∧
    decode x (.sel 0b011011) = .ok (.cellhi true true) ∧
    decode x (.sel 0b011100) = .error .unusedPhase ∧
    decode x (.word 0b000001110) = .ok (.word 0b000001110) ∧
    decode x (.status 0b101) = .ok .statusParityError ∧
    decode x (.phase 0b100) = .ok .phaseStartHi ∧
    decode x (.model 0b011) = .ok .model506
end

