-- ==== Sys2Proof/Laws/State.lean ====
section
/-! SUPPORT. One lemma per field per update of the state, so that no later proof unfolds a record update. -/

namespace Sys2Proof.Machine

variable (s : State)

@[simp] theorem setPwr_phase (v : Bool) : (s.setPwr v).phase = s.phase := rfl
@[simp] theorem setPwr_nbits (v : Bool) : (s.setPwr v).nbits = s.nbits := rfl
@[simp] theorem setPwr_nword (v : Bool) : (s.setPwr v).nword = s.nword := rfl
@[simp] theorem setPwr_cnt (v : Bool) : (s.setPwr v).cnt = s.cnt := rfl
@[simp] theorem setPwr_t (v : Bool) : (s.setPwr v).t = s.t := rfl
@[simp] theorem setPwr_sh (v : Bool) : (s.setPwr v).sh = s.sh := rfl
@[simp] theorem setPwr_byteHi (v : Bool) : (s.setPwr v).byteHi = s.byteHi := rfl
@[simp] theorem setPwr_raw (v : Bool) : (s.setPwr v).raw = s.raw := rfl
@[simp] theorem setPwr_tempNum (v : Bool) : (s.setPwr v).tempNum = s.tempNum := rfl
@[simp] theorem setPwr_status (v : Bool) : (s.setPwr v).status = s.status := rfl
@[simp] theorem setPwr_pwr (v : Bool) : (s.setPwr v).pwr = if s.cfg.powerCtrl then v else s.pwr := rfl
@[simp] theorem setPwr_cfg (v : Bool) : (s.setPwr v).cfg = s.cfg := rfl
@[simp] theorem setPwr_profiles (v : Bool) : (s.setPwr v).profiles = s.profiles := rfl
@[simp] theorem setPwr_inputs (v : Bool) : (s.setPwr v).inputs = s.inputs := rfl
@[simp] theorem setPwr_result (v : Bool) : (s.setPwr v).result = s.result := rfl

@[simp] theorem enter_phase (p : Phase) : (s.enter p).phase = p := rfl
@[simp] theorem enter_nbits (p : Phase) : (s.enter p).nbits = s.nbits := rfl
@[simp] theorem enter_nword (p : Phase) : (s.enter p).nword = s.nword := rfl
@[simp] theorem enter_cnt (p : Phase) : (s.enter p).cnt = 0 := rfl
@[simp] theorem enter_t (p : Phase) : (s.enter p).t = s.t := rfl
@[simp] theorem enter_sh (p : Phase) : (s.enter p).sh = s.sh := rfl
@[simp] theorem enter_byteHi (p : Phase) : (s.enter p).byteHi = s.byteHi := rfl
@[simp] theorem enter_raw (p : Phase) : (s.enter p).raw = s.raw := rfl
@[simp] theorem enter_tempNum (p : Phase) : (s.enter p).tempNum = s.tempNum := rfl
@[simp] theorem enter_status (p : Phase) : (s.enter p).status = s.status := rfl
@[simp] theorem enter_pwr (p : Phase) : (s.enter p).pwr = s.pwr := rfl
@[simp] theorem enter_cfg (p : Phase) : (s.enter p).cfg = s.cfg := rfl
@[simp] theorem enter_profiles (p : Phase) : (s.enter p).profiles = s.profiles := rfl
@[simp] theorem enter_inputs (p : Phase) : (s.enter p).inputs = s.inputs := rfl
@[simp] theorem enter_result (p : Phase) : (s.enter p).result = s.result := rfl

@[simp] theorem setCnt_phase (v : Nat) : (s.setCnt v).phase = s.phase := rfl
@[simp] theorem setCnt_nbits (v : Nat) : (s.setCnt v).nbits = s.nbits := rfl
@[simp] theorem setCnt_nword (v : Nat) : (s.setCnt v).nword = s.nword := rfl
@[simp] theorem setCnt_cnt (v : Nat) : (s.setCnt v).cnt = v := rfl
@[simp] theorem setCnt_t (v : Nat) : (s.setCnt v).t = s.t := rfl
@[simp] theorem setCnt_sh (v : Nat) : (s.setCnt v).sh = s.sh := rfl
@[simp] theorem setCnt_byteHi (v : Nat) : (s.setCnt v).byteHi = s.byteHi := rfl
@[simp] theorem setCnt_raw (v : Nat) : (s.setCnt v).raw = s.raw := rfl
@[simp] theorem setCnt_tempNum (v : Nat) : (s.setCnt v).tempNum = s.tempNum := rfl
@[simp] theorem setCnt_status (v : Nat) : (s.setCnt v).status = s.status := rfl
@[simp] theorem setCnt_pwr (v : Nat) : (s.setCnt v).pwr = s.pwr := rfl
@[simp] theorem setCnt_cfg (v : Nat) : (s.setCnt v).cfg = s.cfg := rfl
@[simp] theorem setCnt_profiles (v : Nat) : (s.setCnt v).profiles = s.profiles := rfl
@[simp] theorem setCnt_inputs (v : Nat) : (s.setCnt v).inputs = s.inputs := rfl
@[simp] theorem setCnt_result (v : Nat) : (s.setCnt v).result = s.result := rfl

@[simp] theorem endRead_phase (st : Status) : (s.endRead st).phase = .idle := rfl
@[simp] theorem endRead_nbits (st : Status) : (s.endRead st).nbits = s.nbits := rfl
@[simp] theorem endRead_nword (st : Status) : (s.endRead st).nword = s.nword := rfl
@[simp] theorem endRead_cnt (st : Status) : (s.endRead st).cnt = 0 := rfl
@[simp] theorem endRead_t (st : Status) : (s.endRead st).t = s.t := rfl
@[simp] theorem endRead_sh (st : Status) : (s.endRead st).sh = s.sh := rfl
@[simp] theorem endRead_byteHi (st : Status) : (s.endRead st).byteHi = s.byteHi := rfl
@[simp] theorem endRead_raw (st : Status) : (s.endRead st).raw = s.raw := rfl
@[simp] theorem endRead_tempNum (st : Status) : (s.endRead st).tempNum = s.tempNum := rfl
@[simp] theorem endRead_status (st : Status) : (s.endRead st).status = st := rfl
@[simp] theorem endRead_pwr (st : Status) : (s.endRead st).pwr = if s.cfg.powerCtrl then false else s.pwr := rfl
@[simp] theorem endRead_cfg (st : Status) : (s.endRead st).cfg = s.cfg := rfl
@[simp] theorem endRead_profiles (st : Status) : (s.endRead st).profiles = s.profiles := rfl
@[simp] theorem endRead_inputs (st : Status) : (s.endRead st).inputs = s.inputs := rfl
@[simp] theorem endRead_result (st : Status) : (s.endRead st).result = s.result := rfl

@[simp] theorem raise_phase (e : Exc) : (s.raise e).phase = .idle := rfl
@[simp] theorem raise_nbits (e : Exc) : (s.raise e).nbits = s.nbits := rfl
@[simp] theorem raise_nword (e : Exc) : (s.raise e).nword = s.nword := rfl
@[simp] theorem raise_cnt (e : Exc) : (s.raise e).cnt = 0 := rfl
@[simp] theorem raise_t (e : Exc) : (s.raise e).t = s.t := rfl
@[simp] theorem raise_sh (e : Exc) : (s.raise e).sh = s.sh := rfl
@[simp] theorem raise_byteHi (e : Exc) : (s.raise e).byteHi = s.byteHi := rfl
@[simp] theorem raise_raw (e : Exc) : (s.raise e).raw = s.raw := rfl
@[simp] theorem raise_tempNum (e : Exc) : (s.raise e).tempNum = s.tempNum := rfl
@[simp] theorem raise_status (e : Exc) : (s.raise e).status = excStatus e := rfl
@[simp] theorem raise_pwr (e : Exc) : (s.raise e).pwr = if s.cfg.powerCtrl then false else s.pwr := rfl
@[simp] theorem raise_cfg (e : Exc) : (s.raise e).cfg = s.cfg := rfl
@[simp] theorem raise_profiles (e : Exc) : (s.raise e).profiles = s.profiles := rfl
@[simp] theorem raise_inputs (e : Exc) : (s.raise e).inputs = s.inputs := rfl
@[simp] theorem raise_result (e : Exc) : (s.raise e).result = s.result := rfl

@[simp] theorem clear_phase : (s.clear).phase = s.phase := rfl
@[simp] theorem clear_nbits : (s.clear).nbits = 0 := rfl
@[simp] theorem clear_nword : (s.clear).nword = 0 := rfl
@[simp] theorem clear_cnt : (s.clear).cnt = 0 := rfl
@[simp] theorem clear_t : (s.clear).t = 0 := rfl
@[simp] theorem clear_sh : (s.clear).sh = 0 := rfl
@[simp] theorem clear_byteHi : (s.clear).byteHi = 0 := rfl
@[simp] theorem clear_raw : (s.clear).raw = 0 := rfl
@[simp] theorem clear_tempNum : (s.clear).tempNum = 0 := rfl
@[simp] theorem clear_status : (s.clear).status = .none := rfl
@[simp] theorem clear_pwr : (s.clear).pwr = s.pwr := rfl
@[simp] theorem clear_cfg : (s.clear).cfg = s.cfg := rfl
@[simp] theorem clear_profiles : (s.clear).profiles = s.profiles := rfl
@[simp] theorem clear_inputs : (s.clear).inputs = s.inputs := rfl
@[simp] theorem clear_result : (s.clear).result = s.result := rfl

@[simp] theorem consume_phase : (s.consume).phase = s.phase := rfl
@[simp] theorem consume_nbits : (s.consume).nbits = s.nbits := rfl
@[simp] theorem consume_nword : (s.consume).nword = s.nword := rfl
@[simp] theorem consume_cnt : (s.consume).cnt = s.cnt := rfl
@[simp] theorem consume_t : (s.consume).t = s.t := rfl
@[simp] theorem consume_sh : (s.consume).sh = s.sh := rfl
@[simp] theorem consume_byteHi : (s.consume).byteHi = s.byteHi := rfl
@[simp] theorem consume_raw : (s.consume).raw = s.raw := rfl
@[simp] theorem consume_tempNum : (s.consume).tempNum = s.tempNum := rfl
@[simp] theorem consume_status : (s.consume).status = s.status := rfl
@[simp] theorem consume_pwr : (s.consume).pwr = s.pwr := rfl
@[simp] theorem consume_cfg : (s.consume).cfg = s.cfg := rfl
@[simp] theorem consume_profiles : (s.consume).profiles = s.profiles := rfl
@[simp] theorem consume_inputs : (s.consume).inputs = s.inputs.tail := rfl
@[simp] theorem consume_result : (s.consume).result = s.result := rfl

end Sys2Proof.Machine
end

