-- ==== Sys2Proof/Laws/Ops.lean ====
section
/-! SUPPORT. For each shared operation, once, everything it can do. -/

namespace Sys2Proof.Machine

/-! ### Records -/

theorem endRead_eq (s : State) (st : Status) :
    s.endRead st =
      { s with status := st, phase := .idle, cnt := 0, pwr := if s.cfg.powerCtrl then false else s.pwr } := rfl

theorem raise_eq_endRead (s : State) (e : Exc) : s.raise e = s.endRead (excStatus e) := rfl

theorem excStatus_ne_none (e : Exc) : excStatus e ≠ .none := by cases e <;> decide

theorem excStatus_ne_ok (e : Exc) : excStatus e ≠ .ok := by cases e <;> decide

/-! ### The classifier -/

theorem classify_eq_invalid_iff {p : Profile} {hi t : Nat} :
    classify p hi t = .invalid ↔ p.upNum * t ≤ hi * p.upDen := by
  unfold classify; split
  · simpa
  · rename_i h; split <;> simpa using h

theorem classify_eq_zero_iff {p : Profile} {hi t : Nat} :
    classify p hi t = .zero ↔ hi * p.upDen < p.upNum * t ∧ hi * p.thrDen < p.thrNum * t := by
  unfold classify; split
  · rename_i h; simp; omega
  · rename_i h; split <;> rename_i h' <;> simp <;> omega

theorem classify_eq_one_iff {p : Profile} {hi t : Nat} :
    classify p hi t = .one ↔ hi * p.upDen < p.upNum * t ∧ p.thrNum * t ≤ hi * p.thrDen := by
  unfold classify; split
  · rename_i h; simp; omega
  · rename_i h; split <;> rename_i h' <;> simp <;> omega

/-- A value that is invalid stays invalid as it grows, so one that is valid was valid when it was smaller (R131(d)). -/
theorem classify_ne_invalid_of_le {p : Profile} {hi hi' t : Nat} (h : hi ≤ hi')
    (hv : classify p hi' t ≠ .invalid) : hi * p.upDen < p.upNum * t := by
  rw [Ne, classify_eq_invalid_iff, not_le] at hv
  exact lt_of_le_of_lt (Nat.mul_le_mul_right _ h) hv

/-! ### The chain CONVERT, RANGECHK, FINISH -/

/-- A conversion ends the read: OK or out of range, with the numerator written. -/
theorem convert_eq (r : Raw16) (s : State) :
    convert r s =
      { s with
        tempNum := tempOf s.cfg.profile r }.endRead
        (if TempInRange s.cfg.profile (tempOf s.cfg.profile r) then .ok else .tempOutOfRange) := by
  unfold convert rangechk
  split <;> rfl

theorem frame_eq (d : Byte) (s : State) :
    frame d s =
      { s with
        raw := joinBytes s.byteHi d
        tempNum := tempOf s.cfg.profile (joinBytes s.byteHi d) }.endRead
        (if TempInRange s.cfg.profile (tempOf s.cfg.profile (joinBytes s.byteHi d)) then .ok
         else .tempOutOfRange) := by
  rw [frame, convert_eq]

/-- The three ways a complete word goes on: bad parity, the first word, the second word. -/
theorem wordchk_cases (w : Word9) (s : State) :
    (parityOk w = false ∧ wordchk w s = s.raise .parityError) ∨
    (parityOk w = true ∧ s.nword = 0 ∧
      wordchk w s = { s with byteHi := dataByte w, nword := 1, phase := .cellLo, cnt := 0 }) ∨
    (parityOk w = true ∧ s.nword = 1 ∧ wordchk w s = frame (dataByte w) s) := by
  unfold wordchk
  cases hp : parityOk w with
  | false => exact .inl ⟨rfl, by simp⟩
  | true =>
    have hw : s.nword = 0 ∨ s.nword = 1 := by omega
    rcases hw with h | h
    · exact .inr (.inl ⟨rfl, h, by simp [h]; rfl⟩)
    · exact .inr (.inr ⟨rfl, h, by simp [h]⟩)

/-- The two ways SHIFT goes on: the word is incomplete, or this was its ninth bit. -/
theorem shift_cases (b : Bool) (s : State) :
    (s.nbits < 8 ∧ shift b s = { s with sh := shiftIn s.sh b, nbits := s.nbits + 1, phase := .cellLo, cnt := 0 }) ∨
    (8 ≤ s.nbits ∧ shift b s = wordchk (shiftIn s.sh b) { s with sh := shiftIn s.sh b, nbits := 0 }) := by
  unfold shift dataBits
  split
  · exact .inl ⟨‹_›, rfl⟩
  · exact .inr ⟨by omega, rfl⟩

/-- Everything the delivery of a bit can do (R150, R151, R153, R170 to R172, R204). -/
theorem shift_outcomes (b : Bool) (s : State) :
    (s.nbits < 8 ∧ shift b s = { s with sh := shiftIn s.sh b, nbits := s.nbits + 1, phase := .cellLo, cnt := 0 }) ∨
    (8 ≤ s.nbits ∧ parityOk (shiftIn s.sh b) = false ∧
      shift b s = { s with sh := shiftIn s.sh b, nbits := 0 }.endRead .parityError) ∨
    (8 ≤ s.nbits ∧ parityOk (shiftIn s.sh b) = true ∧ s.nword = 0 ∧
      shift b s =
        { s with
          sh := shiftIn s.sh b, nbits := 0, byteHi := dataByte (shiftIn s.sh b), nword := 1, phase := .cellLo,
          cnt := 0 }) ∨
    (8 ≤ s.nbits ∧ parityOk (shiftIn s.sh b) = true ∧ s.nword = 1 ∧
      shift b s =
        { s with
          sh := shiftIn s.sh b, nbits := 0
          raw := joinBytes s.byteHi (dataByte (shiftIn s.sh b))
          tempNum := tempOf s.cfg.profile (joinBytes s.byteHi (dataByte (shiftIn s.sh b))) }.endRead
          (if TempInRange s.cfg.profile (tempOf s.cfg.profile (joinBytes s.byteHi (dataByte (shiftIn s.sh b))))
           then .ok else .tempOutOfRange)) := by
  rcases shift_cases b s with h | ⟨h8, h⟩
  · exact .inl h
  · rcases wordchk_cases (shiftIn s.sh b) { s with sh := shiftIn s.sh b, nbits := 0 } with
      ⟨hp, e⟩ | ⟨hp, hw, e⟩ | ⟨hp, hw, e⟩
    · exact .inr (.inl ⟨h8, hp, by rw [h, e]; rfl⟩)
    · exact .inr (.inr (.inl ⟨h8, hp, hw, by rw [h, e]⟩))
    · exact .inr (.inr (.inr ⟨h8, hp, hw, by rw [h, e, frame_eq]⟩))

end Sys2Proof.Machine
end

