-- ==== Sys2Proof/Laws/Line.lean ====
section
/-! SUPPORT. Ticks and runs of equal samples: what a tick never touches, and what a run of the line does in each
phase. -/

namespace Sys2Proof.Machine

/-! ### The tick, phase by phase (R30) -/

variable {i : Input} {s : State}

theorem tick_rst (hr : i.rst = true) : tick i s = resetRegs s := by
  simp [tick, hr]

theorem tick_idle (hr : i.rst = false) (h : s.phase = .idle) : tick i s = if i.start then read s else s := by
  simp [tick, hr, h]

theorem tick_settle (hr : i.rst = false) (h : s.phase = .settle) : tick i s = settle s := by
  simp [tick, hr, h]

theorem tick_waitStrobe (hr : i.rst = false) (h : s.phase = .waitStrobe) : tick i s = waitstb i.zw s := by
  simp [tick, hr, h]

theorem tick_measStrobe (hr : i.rst = false) (h : s.phase = .measStrobe) : tick i s = measstb i.zw s := by
  simp [tick, hr, h]

theorem tick_startHi (hr : i.rst = false) (h : s.phase = .startHi) : tick i s = starthi i.zw s := by
  simp [tick, hr, h]

theorem tick_cellLo (hr : i.rst = false) (h : s.phase = .cellLo) : tick i s = celllo i.zw s := by
  simp [tick, hr, h]

theorem tick_cellHi (hr : i.rst = false) (h : s.phase = .cellHi) : tick i s = cellhi i.zw s := by
  simp [tick, hr, h]

/-- What a tick can do: it is a reset, or the operation of its phase. -/
theorem tick_cases (i : Input) (s : State) :
    (i.rst = true ∧ tick i s = resetRegs s) ∨
    (i.rst = false ∧
      ((s.phase = .idle ∧ i.start = false ∧ tick i s = s) ∨
       (s.phase = .idle ∧ i.start = true ∧ tick i s = read s) ∨
       (s.phase = .settle ∧ tick i s = settle s) ∨
       (s.phase = .waitStrobe ∧ tick i s = waitstb i.zw s) ∨
       (s.phase = .measStrobe ∧ tick i s = measstb i.zw s) ∨
       (s.phase = .startHi ∧ tick i s = starthi i.zw s) ∨
       (s.phase = .cellLo ∧ tick i s = celllo i.zw s) ∨
       (s.phase = .cellHi ∧ tick i s = cellhi i.zw s))) := by
  cases hr : i.rst with
  | true => exact .inl ⟨rfl, tick_rst hr⟩
  | false =>
    refine .inr ⟨rfl, ?_⟩
    cases hp : s.phase with
    | idle =>
      rw [tick_idle hr hp]
      cases hs : i.start <;> simp
    | settle => simp [tick_settle hr hp]
    | waitStrobe => simp [tick_waitStrobe hr hp]
    | measStrobe => simp [tick_measStrobe hr hp]
    | startHi => simp [tick_startHi hr hp]
    | cellLo => simp [tick_cellLo hr hp]
    | cellHi => simp [tick_cellHi hr hp]

/-! ### What each operation can do -/

theorem read_eq (s : State) :
    read s =
      { s with
        status := .none, cnt := 0, t := 0, sh := 0, nbits := 0, nword := 0, byteHi := 0, raw := 0, tempNum := 0
        pwr := if s.cfg.powerCtrl then true else s.pwr
        phase := if s.cfg.powerCtrl then .settle else .waitStrobe } := by
  unfold read pwron
  simp only [clear_cfg]
  by_cases h : s.cfg.powerCtrl = true <;> simp [State.clear, State.enter, State.setPwr, h]

theorem resetRegs_eq (s : State) :
    resetRegs s =
      { State.resetWith s.cfg s.profiles s.inputs with pwr := if s.cfg.powerCtrl then false else s.pwr } := rfl

theorem waitstb_cases (zw : Bool) (s : State) :
    (zw = false ∧ waitstb zw s = s.enter .measStrobe) ∨
    (zw = true ∧ s.cnt = s.cfg.strobeWaitMax - 1 ∧ waitstb zw s = s.endRead .timeout) ∨
    (zw = true ∧ s.cnt ≠ s.cfg.strobeWaitMax - 1 ∧ waitstb zw s = s.setCnt (s.cnt + 1)) := by
  unfold waitstb
  cases zw <;> by_cases h : s.cnt = s.cfg.strobeWaitMax - 1 <;> simp [h, State.raise, excStatus]

theorem measstb_cases (zw : Bool) (s : State) :
    (zw = false ∧ s.cnt + 1 = s.cfg.strobeMax ∧ measstb zw s = s.endRead .timeout) ∨
    (zw = false ∧ s.cnt + 1 ≠ s.cfg.strobeMax ∧ measstb zw s = s.setCnt (s.cnt + 1)) ∨
    (zw = true ∧ s.cnt = 0 ∧ measstb zw s = s.endRead .invalidStrobeLength) ∨
    (zw = true ∧ s.cnt ≠ 0 ∧ measstb zw s = { s with t := s.cnt }.enter .startHi) := by
  unfold measstb
  cases zw
  · by_cases h : s.cnt + 1 = s.cfg.strobeMax <;> simp [h, State.raise, excStatus]
  · by_cases h : s.cnt = 0 <;> simp [h, State.raise, excStatus]

theorem starthi_cases (zw : Bool) (s : State) :
    (zw = false ∧ starthi zw s = s.enter .cellLo) ∨
    (zw = true ∧ s.cnt + 1 = s.cfg.edgeWaitMax ∧ starthi zw s = s.endRead .timeout) ∨
    (zw = true ∧ s.cnt + 1 ≠ s.cfg.edgeWaitMax ∧ starthi zw s = s.setCnt (s.cnt + 1)) := by
  unfold starthi
  cases zw <;> by_cases h : s.cnt + 1 = s.cfg.edgeWaitMax <;> simp [h, State.raise, excStatus]

theorem celllo_cases (zw : Bool) (s : State) :
    (zw = true ∧ celllo zw s = s.enter .cellHi) ∨
    (zw = false ∧ s.cnt + 1 = s.cfg.edgeWaitMax ∧ celllo zw s = s.endRead .timeout) ∨
    (zw = false ∧ s.cnt + 1 ≠ s.cfg.edgeWaitMax ∧ celllo zw s = s.setCnt (s.cnt + 1)) := by
  unfold celllo
  cases zw <;> by_cases h : s.cnt + 1 = s.cfg.edgeWaitMax <;> simp [h, State.raise, excStatus]

theorem settle_cases (s : State) :
    (s.cfg.powerCtrl = false ∧ settle s = s) ∨
    (s.cfg.powerCtrl = true ∧ s.cnt = s.cfg.settleTicks - 1 ∧ settle s = s.enter .waitStrobe) ∨
    (s.cfg.powerCtrl = true ∧ s.cnt ≠ s.cfg.settleTicks - 1 ∧ settle s = s.setCnt (s.cnt + 1)) := by
  unfold settle
  cases hp : s.cfg.powerCtrl <;> by_cases h : s.cnt = s.cfg.settleTicks - 1 <;> simp [h]

theorem cellhi_cases (zw : Bool) (s : State) :
    (zw = true ∧ s.cfg.profile.upNum * s.t ≤ (s.cnt + 1) * s.cfg.profile.upDen ∧
      cellhi zw s = s.endRead .invalidBitTiming) ∨
    (zw = true ∧ (s.cnt + 1) * s.cfg.profile.upDen < s.cfg.profile.upNum * s.t ∧
      cellhi zw s = s.setCnt (s.cnt + 1)) ∨
    (zw = false ∧ classify s.cfg.profile s.cnt s.t = .invalid ∧ cellhi zw s = s.endRead .invalidBitTiming) ∨
    (zw = false ∧ classify s.cfg.profile s.cnt s.t ≠ .invalid ∧
      cellhi zw s = shift (classify s.cfg.profile s.cnt s.t == .one) s) := by
  unfold cellhi
  cases zw
  · cases hc : classify s.cfg.profile s.cnt s.t <;> simp [deliverSymbol, State.raise, excStatus]
    rfl
  · by_cases h : s.cfg.profile.upNum * s.t ≤ (s.cnt + 1) * s.cfg.profile.upDen
    · simp [h, State.raise, excStatus]
    · simp [h, Nat.lt_of_not_le h]

/-! ### What no tick touches -/

theorem shift_inputs (b : Bool) (s : State) (l : List Input) :
    shift b { s with inputs := l } = { shift b s with inputs := l } := by
  unfold shift wordchk frame convert rangechk finish
  dsimp only
  split_ifs <;> rfl

theorem cellhi_inputs (zw : Bool) (s : State) (l : List Input) :
    cellhi zw { s with inputs := l } = { cellhi zw s with inputs := l } := by
  unfold cellhi deliverSymbol
  dsimp only
  split_ifs
  · rfl
  · rfl
  · split
    · exact shift_inputs _ _ _
    · exact shift_inputs _ _ _
    · rfl

/-- A tick works on the registers alone: it commutes with a change of the trace still to come. -/
theorem tick_inputs (i : Input) (s : State) (l : List Input) :
    tick i { s with inputs := l } = { tick i s with inputs := l } := by
  have hp : ∀ p, s.phase = p → ({ s with inputs := l } : State).phase = p := fun _ h => h
  rcases tick_cases i s with ⟨hr, e⟩ | ⟨hr, ⟨h, hs, e⟩ | ⟨h, hs, e⟩ | ⟨h, e⟩ | ⟨h, e⟩ | ⟨h, e⟩ | ⟨h, e⟩ | ⟨h, e⟩ | ⟨h, e⟩⟩
  · rw [e, tick_rst hr]; rfl
  · rw [e, tick_idle hr (hp _ h), hs]; rfl
  · rw [e, tick_idle hr (hp _ h), hs, if_pos rfl, read_eq, read_eq]
  · rw [e, tick_settle hr (hp _ h)]; unfold settle; dsimp only; split_ifs <;> rfl
  · rw [e, tick_waitStrobe hr (hp _ h)]; unfold waitstb; dsimp only; split_ifs <;> rfl
  · rw [e, tick_measStrobe hr (hp _ h)]; unfold measstb; dsimp only; split_ifs <;> rfl
  · rw [e, tick_startHi hr (hp _ h)]; unfold starthi; dsimp only; split_ifs <;> rfl
  · rw [e, tick_cellLo hr (hp _ h)]; unfold celllo; dsimp only; split_ifs <;> rfl
  · rw [e, tick_cellHi hr (hp _ h)]; exact cellhi_inputs _ _ _

theorem tick_inputs_eq (i : Input) (s : State) : (tick i s).inputs = s.inputs := by
  have h : tick i s = { tick i s with inputs := s.inputs } := tick_inputs i s s.inputs
  rw [h]

theorem shift_keeps (b : Bool) (s : State) :
    (shift b s).cfg = s.cfg ∧ (shift b s).profiles = s.profiles ∧ (shift b s).result = s.result ∧
      (shift b s).t = s.t := by
  rcases shift_outcomes b s with ⟨_, e⟩ | ⟨_, _, e⟩ | ⟨_, _, _, e⟩ | ⟨_, _, _, e⟩ <;> rw [e] <;> simp

/-! ### Feeding samples -/

@[simp] theorem feed_nil (s : State) : feed [] s = s := rfl

theorem feed_cons (z : Bool) (zs : List Bool) (s : State) :
    feed (z :: zs) s = feed zs (tick (lineInput z) s) := rfl

theorem feed_append (xs ys : List Bool) (s : State) : feed (xs ++ ys) s = feed ys (feed xs s) := by
  simp [feed, ticks]

theorem high_succ (n : Nat) : high (n + 1) = true :: high n := rfl

theorem low_succ (n : Nat) : low (n + 1) = false :: low n := rfl

theorem tick_line_idle {s : State} (h : s.phase = .idle) (z : Bool) : tick (lineInput z) s = s := by
  simp [tick, lineInput, h]

theorem tick_line_waitStrobe {s : State} (h : s.phase = .waitStrobe) (z : Bool) :
    tick (lineInput z) s = waitstb z s := by
  simp [tick, lineInput, h]

theorem tick_line_measStrobe {s : State} (h : s.phase = .measStrobe) (z : Bool) :
    tick (lineInput z) s = measstb z s := by
  simp [tick, lineInput, h]

theorem tick_line_startHi {s : State} (h : s.phase = .startHi) (z : Bool) :
    tick (lineInput z) s = starthi z s := by
  simp [tick, lineInput, h]

theorem tick_line_cellLo {s : State} (h : s.phase = .cellLo) (z : Bool) :
    tick (lineInput z) s = celllo z s := by
  simp [tick, lineInput, h]

theorem tick_line_cellHi {s : State} (h : s.phase = .cellHi) (z : Bool) :
    tick (lineInput z) s = cellhi z s := by
  simp [tick, lineInput, h]

/-- Whatever is on the line after the read has ended is not examined (R93). -/
theorem feed_idle {s : State} (h : s.phase = .idle) (zs : List Bool) : feed zs s = s := by
  induction zs with
  | nil => rfl
  | cons z zs ih => rw [feed_cons, tick_line_idle h]; exact ih

/-! ### Runs of equal samples that stay within the budget of their phase -/

theorem setCnt_setCnt (s : State) (a b : Nat) : (s.setCnt a).setCnt b = s.setCnt b := rfl

theorem setCnt_self (s : State) : s.setCnt s.cnt = s := rfl

theorem feed_high_waitStrobe {s : State} (h : s.phase = .waitStrobe) {n : Nat}
    (hb : s.cnt + n < s.cfg.strobeWaitMax) : feed (high n) s = s.setCnt (s.cnt + n) := by
  induction n generalizing s with
  | zero => rfl
  | succ n ih =>
    have e : waitstb true s = s.setCnt (s.cnt + 1) := by
      rw [waitstb, if_pos rfl, if_neg (by omega)]
    rw [high_succ, feed_cons, tick_line_waitStrobe h, e, ih (by simpa using h) (by simp; omega)]
    simp [State.setCnt]; omega

theorem feed_low_measStrobe {s : State} (h : s.phase = .measStrobe) {n : Nat}
    (hb : s.cnt + n < s.cfg.strobeMax) : feed (low n) s = s.setCnt (s.cnt + n) := by
  induction n generalizing s with
  | zero => rfl
  | succ n ih =>
    have e : measstb false s = s.setCnt (s.cnt + 1) := by
      rw [measstb, if_neg (by decide), if_neg (by omega)]
    rw [low_succ, feed_cons, tick_line_measStrobe h, e, ih (by simpa using h) (by simp; omega)]
    simp [State.setCnt]; omega

theorem feed_high_startHi {s : State} (h : s.phase = .startHi) {n : Nat}
    (hb : s.cnt + n < s.cfg.edgeWaitMax) : feed (high n) s = s.setCnt (s.cnt + n) := by
  induction n generalizing s with
  | zero => rfl
  | succ n ih =>
    have e : starthi true s = s.setCnt (s.cnt + 1) := by
      rw [starthi, if_pos rfl, if_neg (by omega)]
    rw [high_succ, feed_cons, tick_line_startHi h, e, ih (by simpa using h) (by simp; omega)]
    simp [State.setCnt]; omega

theorem feed_low_cellLo {s : State} (h : s.phase = .cellLo) {n : Nat}
    (hb : s.cnt + n < s.cfg.edgeWaitMax) : feed (low n) s = s.setCnt (s.cnt + n) := by
  induction n generalizing s with
  | zero => rfl
  | succ n ih =>
    have e : celllo false s = s.setCnt (s.cnt + 1) := by
      rw [celllo, if_neg (by decide), if_neg (by omega)]
    rw [low_succ, feed_cons, tick_line_cellLo h, e, ih (by simpa using h) (by simp; omega)]
    simp [State.setCnt]; omega

theorem feed_high_cellHi {s : State} (h : s.phase = .cellHi) {n : Nat}
    (hb : (s.cnt + n) * s.cfg.profile.upDen < s.cfg.profile.upNum * s.t) :
    feed (high n) s = s.setCnt (s.cnt + n) := by
  induction n generalizing s with
  | zero => rfl
  | succ n ih =>
    have hlt : (s.cnt + 1) * s.cfg.profile.upDen < s.cfg.profile.upNum * s.t :=
      lt_of_le_of_lt (Nat.mul_le_mul_right _ (by omega)) hb
    have e : cellhi true s = s.setCnt (s.cnt + 1) := by
      rw [cellhi, if_pos rfl, if_neg (by unfold RatioGe; omega)]
    rw [high_succ, feed_cons, tick_line_cellHi h, e, ih (by simpa using h)
      (by simpa [Nat.add_assoc, Nat.add_comm 1 n] using hb)]
    simp [State.setCnt]; omega

end Sys2Proof.Machine
end

