-- ==== Sys2Proof/Laws/Step.lean ====
section
/-! SUPPORT. What a step can do, said once: with a configuration of this hardware it is the tick of R30. -/

namespace Sys2Proof.Machine

/-- Every tick operation is a next state: the tick of its inputs. -/
theorem decodeSel_packSel_reset (p : Code3) (st zw : Bool) :
    decodeSel (packSel true p st zw) = .ok (.reset p st zw) := by
  revert p; cases st <;> cases zw <;> decide

theorem decodeSel_packSel_idle (st zw : Bool) :
    decodeSel (packSel false Phase.idle.code st zw) = .ok (if st then .read zw else .nop zw) := by
  cases st <;> cases zw <;> decide

theorem decodeSel_packSel_settle (st zw : Bool) :
    decodeSel (packSel false Phase.settle.code st zw) = .ok (.settle st zw) := by
  cases st <;> cases zw <;> decide

theorem decodeSel_packSel_waitStrobe (st zw : Bool) :
    decodeSel (packSel false Phase.waitStrobe.code st zw) = .ok (.waitstb st zw) := by
  cases st <;> cases zw <;> decide

theorem decodeSel_packSel_measStrobe (st zw : Bool) :
    decodeSel (packSel false Phase.measStrobe.code st zw) = .ok (.measstb st zw) := by
  cases st <;> cases zw <;> decide

theorem decodeSel_packSel_startHi (st zw : Bool) :
    decodeSel (packSel false Phase.startHi.code st zw) = .ok (.starthi st zw) := by
  cases st <;> cases zw <;> decide

theorem decodeSel_packSel_cellLo (st zw : Bool) :
    decodeSel (packSel false Phase.cellLo.code st zw) = .ok (.celllo st zw) := by
  cases st <;> cases zw <;> decide

theorem decodeSel_packSel_cellHi (st zw : Bool) :
    decodeSel (packSel false Phase.cellHi.code st zw) = .ok (.cellhi st zw) := by
  cases st <;> cases zw <;> decide

/-- The step of a machine with a configuration of this hardware is the tick of its inputs. -/
theorem step_eq_tick {s : State} (h : ConfigOk s.cfg) : step s = .next (tick s.sample s.consume) := by
  unfold step State.selWord tick
  rw [if_pos h]
  cases hr : s.sample.rst with
  | true => rw [decodeSel_packSel_reset]; rfl
  | false =>
    simp only [consume_phase, Bool.false_eq_true, if_false]
    cases hp : s.phase with
    | idle => rw [decodeSel_packSel_idle]; cases s.sample.start <;> rfl
    | settle => rw [decodeSel_packSel_settle]; rfl
    | waitStrobe => rw [decodeSel_packSel_waitStrobe]; rfl
    | measStrobe => rw [decodeSel_packSel_measStrobe]; rfl
    | startHi => rw [decodeSel_packSel_startHi]; rfl
    | cellLo => rw [decodeSel_packSel_cellLo]; rfl
    | cellHi => rw [decodeSel_packSel_cellHi]; rfl

/-- A step that answers a next state had a configuration of this hardware and was its tick. -/
theorem step_next {s t : State} (h : step s = .next t) : ConfigOk s.cfg ∧ t = tick s.sample s.consume := by
  by_cases hc : ConfigOk s.cfg
  · rw [step_eq_tick hc] at h; exact ⟨hc, (Host.Outcome.next.inj h).symm⟩
  · unfold step at h; rw [if_neg hc] at h; cases h

/-- A step without a configuration of this hardware is refused. -/
theorem step_refused {s : State} (h : ¬ConfigOk s.cfg) : step s = .refused .invalidConfiguration := by
  unfold step; rw [if_neg h]

end Sys2Proof.Machine
end

