-- ==== Sys2Proof/Laws/Run.lean ====
section
/-! SUPPORT. The step and the run in terms of ticks, with the trace still to come kept apart. -/

namespace Sys2Proof.Machine

/-- The step of a machine with a configuration of this hardware: the tick of its inputs, one input taken. -/
theorem step_eq {s : State} (h : ConfigOk s.cfg) :
    step s = .next { tick s.sample s with inputs := s.inputs.tail } := by
  rw [step_eq_tick h, State.consume, tick_inputs]

/-- What a step that answers a next state was. -/
theorem step_next_eq {s t : State} (h : step s = .next t) :
    ConfigOk s.cfg ∧ t = { tick s.sample s with inputs := s.inputs.tail } := by
  obtain ⟨hc, e⟩ := step_next h
  exact ⟨hc, by rw [e, State.consume, tick_inputs]⟩

/-- The first step of a run. -/
theorem run_next {s t : State} {n : Nat} (h : step s = .next t) :
    Host.Core.run core (n + 1) s = Host.Core.run core n t := by
  have e : core.step s = Host.Outcome.next t := h
  simp only [Host.Core.run, e]

/-- Many ticks work on the registers alone, as one does. -/
theorem ticks_inputs (ins : List Input) (s : State) (l : List Input) :
    ticks ins { s with inputs := l } = { ticks ins s with inputs := l } := by
  induction ins generalizing s with
  | nil => rfl
  | cons i ins ih =>
    show ticks ins (tick i { s with inputs := l }) = _
    rw [tick_inputs, ih]; rfl

end Sys2Proof.Machine
end

