-- ==== Sys2Proof/Tests/Slice0.lean ====
section
/-! SUPPORT. Tests of the model: ill-formed operands, words written out from the operation table, one step of each
operation with values from `spec/95_test_vectors.md` (the vector is named beside each), and for every statement with
hypotheses a concrete case that meets them. -/

namespace Sys2Proof.Tests

open Sys2Proof Sys2Proof.Machine

/-! ### Helpers -/

/-- The next state of an outcome. -/
def after : Host.Outcome State Fault Refusal → Option State
  | .next s => some s
  | .fault _ => none
  | .refused _ => none

/-- `REF` with `POWER_CTRL` (vectors V1 to V4). -/
def cfgP : Cfg := { Cfg.ref with powerCtrl := true }

/-- A state of a read: the phase, `CNT`, `T`; the supply is on when there is one. -/
def inRead (c : Cfg) (p : Phase) (cnt t : Nat) : State :=
  { State.resetWith c .ref [] with phase := p, cnt := cnt, t := t, pwr := c.powerCtrl }

/-- The same with its assembler registers. -/
def inWord (cnt nbits : Nat) (nword : Fin 2) (sh : Word9) (hi : Byte) : State :=
  { inRead .ref .cellHi cnt 10 with nbits := nbits, nword := nword, sh := sh, byteHi := hi }

/-- An input trace of one tick. -/
def one (rst start zw : Bool) : List Input := [{ rst := rst, start := start, zw := zw }]

/-- An idle machine holding a good result (program P1's end state). -/
def finished : State :=
  { State.resetWith .ref .ref [] with
    status := .ok, raw := 1023, tempNum := 102250, t := 10, sh := 0b111111111, nword := 1, byteHi := 3 }

theorem cfg_ref_ok : ConfigOk Cfg.ref := by decide

theorem cfgP_ok : ConfigOk cfgP := by decide

/-! ### Ill-formed operands are refused (R81, R82, R9(f)) -/

def beforeStrobe : LineContext := { cfg := .ref, strobe := none }

def afterStrobe (t : Nat) : LineContext := { cfg := .ref, strobe := some t }

theorem test_wf_start : Instr.wf beforeStrobe (.start 10 10) = true ∧ Instr.wf beforeStrobe (.start 39 39) = true := by
  decide

theorem test_illformed_strobe_zero : Instr.wf beforeStrobe (.start 0 10) = false := by decide

theorem test_illformed_strobe_long : Instr.wf beforeStrobe (.start 40 10) = false := by decide

theorem test_illformed_start_high_long : Instr.wf beforeStrobe (.start 10 40) = false := by decide

theorem test_illformed_second_start : Instr.wf (afterStrobe 10) (.start 10 10) = false := by decide

theorem test_wf_symbols :
    Instr.wf (afterStrobe 10) (.sym0 39 14) = true ∧ Instr.wf (afterStrobe 10) (.sym1 0 15) = true ∧
      Instr.wf (afterStrobe 10) (.symx 10 30) = true := by decide

theorem test_illformed_data_before_strobe : Instr.wf beforeStrobe (.sym0 10 10) = false := by decide

theorem test_illformed_low_run : Instr.wf (afterStrobe 10) (.sym0 40 10) = false := by decide

theorem test_illformed_wrong_symbol :
    Instr.wf (afterStrobe 10) (.sym0 10 15) = false ∧ Instr.wf (afterStrobe 10) (.sym1 10 14) = false ∧
      Instr.wf (afterStrobe 10) (.symx 10 29) = false := by decide

theorem test_illformed_strobe_context : Instr.wf (afterStrobe 0) (.symx 10 0) = false := by decide

theorem test_illformed_numerator :
    Instr.wf beforeStrobe (.rangechk 13004650) = true ∧ Instr.wf beforeStrobe (.rangechk 16777216) = false := by decide

/-! ### Words written out from the operation table (R80 to R92) -/

theorem test_decode_reset : decodeSel 0b111111 = .ok (.reset 0b111 true true) ∧
    decodeSel 0b100001 = .ok (.reset 0b000 false true) := by constructor <;> rfl

theorem test_decode_nop : decodeSel 0b000000 = .ok (.nop false) ∧ decodeSel 0b000001 = .ok (.nop true) := by
  constructor <;> rfl

theorem test_decode_read : decodeSel 0b000010 = .ok (.read false) ∧ decodeSel 0b000011 = .ok (.read true) := by
  constructor <;> rfl

theorem test_decode_settle : decodeSel 0b000110 = .ok (.settle true false) := by rfl

theorem test_decode_waitstb : decodeSel 0b001001 = .ok (.waitstb false true) := by rfl

theorem test_decode_measstb : decodeSel 0b001110 = .ok (.measstb true false) := by rfl

theorem test_decode_starthi : decodeSel 0b010001 = .ok (.starthi false true) := by rfl

theorem test_decode_celllo : decodeSel 0b010110 = .ok (.celllo true false) := by rfl

theorem test_decode_cellhi : decodeSel 0b011001 = .ok (.cellhi false true) := by rfl

theorem test_decode_unused_phase : decodeSel 0b011100 = .error .unusedPhase ∧
    decodeSel 0b011111 = .error .unusedPhase := by constructor <;> rfl

theorem test_tick_rows_disjoint :
    tickRows.Pairwise (fun a b => a.bits &&& (a.mask &&& b.mask) ≠ b.bits &&& (a.mask &&& b.mask)) := by decide

/-- `START(2, 1)` is `L3 H2` (R96). -/
theorem test_decode_start : decode beforeStrobe (.cell [false, false, false, true, true]) = .ok (.start 2 1) := by rfl

/-- With `T = 1`: `CELL(0, 1)` is a 0, `CELL(0, 2)` a 1, `CELL(0, 3)` an X (B1). -/
theorem test_decode_symbols :
    decode (afterStrobe 1) (.cell [false, true, true]) = .ok (.sym0 0 1) ∧
    decode (afterStrobe 1) (.cell [false, true, true, true]) = .ok (.sym1 0 2) ∧
    decode (afterStrobe 1) (.cell [false, true, true, true, true]) = .ok (.symx 0 3) := by
  refine ⟨?_, ?_, ?_⟩ <;> rfl

theorem test_decode_not_a_cell :
    decode beforeStrobe (.cell []) = .error .notACell ∧
    decode beforeStrobe (.cell [true, false]) = .error .notACell ∧
    decode beforeStrobe (.cell [false, false]) = .error .notACell ∧
    decode beforeStrobe (.cell [false, true, false]) = .error .notACell := by
  refine ⟨?_, ?_, ?_, ?_⟩ <;> rfl

theorem test_decode_bad_start : decode beforeStrobe (.cell [false, true]) = .error .badStartCell := by rfl

theorem test_decode_bad_data :
    decode (afterStrobe 1) (.cell (List.replicate 41 false ++ [true])) = .error .badDataCell := by rfl

/-- `w(0xA5)` is `101001011` (W1): data byte and parity bit. -/
theorem test_decode_word :
    decode beforeStrobe (.word 0b101001011) = .ok (.word 0x14B) ∧ dataByte 0b101001011 = 0xA5 ∧
      parityBit 0b101001011 = true := by refine ⟨?_, ?_, ?_⟩ <;> rfl

/-- `ENC(2150)` (F10). -/
theorem test_decode_frame :
    decode beforeStrobe (.frame 0b000010000011001101) = .ok (.frameBits (encodeFrame 2150)) := by rfl

theorem test_decode_raw : decode beforeStrobe (.value 0b0000100001100110) = .ok (.raw 2150) := by rfl

theorem test_decode_status :
    [0b000, 0b001, 0b010, 0b011, 0b100, 0b101, 0b110, 0b111].map decodeStatus =
      [.statusNone, .statusOk, .statusTimeout, .statusInvalidStrobeLength, .statusInvalidBitTiming, .statusParityError,
        .statusTempOutOfRange, .statusReserved] := by rfl

theorem test_decode_phase :
    [0b000, 0b001, 0b010, 0b011, 0b100, 0b101, 0b110, 0b111].map decodePhase =
      [.phaseIdle, .phaseSettle, .phaseWaitStrobe, .phaseMeasStrobe, .phaseStartHi, .phaseCellLo, .phaseCellHi,
        .phaseUnused] := by rfl

theorem test_decode_model :
    [0b000, 0b001, 0b010, 0b011, 0b100, 0b101, 0b110, 0b111].map decodeModel =
      [.model306, .model206, .model316, .model506, .model516, .modelReserved5, .modelReserved6, .modelReserved7] := by
  rfl

/-- The selector word of a table row is in force at the next step. -/
theorem test_fetch_word :
    [0b000001, 0b000010, 0b000110, 0b001001, 0b001100, 0b010011, 0b010110, 0b011001, 0b101110].map
      (fun w => (State.reset.withFetchWord 8 w).selWord) =
    [0b000001, 0b000010, 0b000110, 0b001001, 0b001100, 0b010011, 0b010110, 0b011001, 0b101110] := by rfl

/-- READ as the first operation after reset (K2). -/
theorem test_fetch_step :
    after (step (State.reset.withFetchWord 8 0b000011)) = some (inRead .ref .waitStrobe 0 0) := by decide

theorem test_table_word :
    decodeTableWord 8 0b001001 = some (.waitstb false true) ∧ decodeTableWord 8 64 = none ∧
    decodeTableWord 9 0x14B = some (.word 0x14B) ∧ decodeTableWord 16 2150 = some (.raw 2150) ∧
    decodeTableWord 24 0b000010000011001101 = some (.frameBits 0b000010000011001101) := by
  refine ⟨?_, ?_, ?_, ?_, ?_⟩ <;> rfl

/-! ### One step of each operation -/

/-- RS1: a reset in mid-read leaves the reset state. -/
theorem test_reset :
    after (exec (.reset 6 true false) (inWord 2 1 1 0b000001111 3)) = some (State.resetWith .ref .ref []) := by decide

/-- K1: an idle tick changes nothing. -/
theorem test_nop : after (exec (.nop false) finished) = some finished := by decide

/-- K2, and R110(a): the old result is cleared. -/
theorem test_read : after (exec (.read true) finished) = some (inRead .ref .waitStrobe 0 0) := by decide

/-- V1, tick 0: the supply is on, the decoder settles. -/
theorem test_read_power : after (exec (.read true) (State.resetWith cfgP .ref [])) = some (inRead cfgP .settle 0 0) := by
  decide

/-- V1, ticks 3 and 4. -/
theorem test_settle :
    after (exec (.settle true false) (inRead cfgP .settle 2 0)) = some (inRead cfgP .settle 3 0) ∧
    after (exec (.settle true false) (inRead cfgP .settle 3 0)) = some (inRead cfgP .waitStrobe 0 0) := by decide

/-- T1: the 100th high sample has `CNT = 99`. -/
theorem test_waitstb_timeout :
    (after (exec (.waitstb false true) (inRead .ref .waitStrobe 99 0))).map (fun s => (s.phase, s.status, s.cnt)) =
      some (.idle, .timeout, 0) := by decide

/-- T2: the strobe is accepted at the last chance. -/
theorem test_waitstb_last_chance :
    after (exec (.waitstb true false) (inRead .ref .waitStrobe 99 0)) = some (inRead .ref .measStrobe 0 0) := by decide

/-- T4: a strobe of one sample. T8: the longest strobe. -/
theorem test_measstb_high :
    (after (exec (.measstb false true) (inRead .ref .measStrobe 0 0))).map (fun s => (s.phase, s.status, s.t)) =
      some (.idle, .invalidStrobeLength, 0) ∧
    after (exec (.measstb false true) (inRead .ref .measStrobe 39 0)) = some (inRead .ref .startHi 0 39) := by decide

/-- T7: a line stuck low. -/
theorem test_measstb_low :
    (after (exec (.measstb false false) (inRead .ref .measStrobe 39 0))).map (fun s => (s.phase, s.status)) =
      some (.idle, .timeout) ∧
    after (exec (.measstb false false) (inRead .ref .measStrobe 38 0)) = some (inRead .ref .measStrobe 39 0) := by decide

/-- T10: the 41st high sample. -/
theorem test_starthi :
    (after (exec (.starthi false true) (inRead .ref .startHi 39 10))).map (fun s => (s.status, s.t)) =
      some (.timeout, 10) ∧
    after (exec (.starthi false false) (inRead .ref .startHi 39 10)) = some (inRead .ref .cellLo 0 10) := by decide

/-- T12: the 41st low sample. T13: forty low samples are accepted. -/
theorem test_celllo :
    (after (exec (.celllo false false) (inRead .ref .cellLo 39 10))).map (fun s => (s.status, s.t)) =
      some (.timeout, 10) ∧
    after (exec (.celllo false true) (inRead .ref .cellLo 39 10)) = some (inRead .ref .cellHi 0 10) := by decide

/-- B3: `hi = 29` is the largest 1. -/
theorem test_cellhi_falling :
    (after (exec (.cellhi false false) (inRead .ref .cellHi 29 10))).map (fun s => (s.phase, s.cnt, s.sh, s.nbits)) =
      some (.cellLo, 0, 0b000000001, 1) := by decide

/-- B4: at the 31st high sample, `30 >= 30`. -/
theorem test_cellhi_high :
    (after (exec (.cellhi false true) (inRead .ref .cellHi 29 10))).map (fun s => (s.phase, s.status, s.nbits)) =
      some (.idle, .invalidBitTiming, 0) ∧
    after (exec (.cellhi false true) (inRead .ref .cellHi 28 10)) = some (inRead .ref .cellHi 29 10) := by decide

/-- V1: the supply. -/
theorem test_power :
    after (exec .pwron (State.resetWith cfgP .ref [])) = some (inRead cfgP .settle 0 0) ∧
    (after (exec .pwroff (inRead cfgP .cellHi 8 4))).map State.vddEn = some false := by decide

/-- B1, row `T = 10`; `hi = 0` gives 0. -/
theorem test_classify :
    [0, 14, 15, 29, 30].map (fun hi => classify Profile.ref306 hi 10) = [.zero, .zero, .one, .one, .invalid] ∧
    (after (exec .classify (inRead .ref .cellHi 15 10))).map (·.result) = some (.symbol .one) := by decide

/-- B2: with `UP = 2` and `T = 1` no duration is a 1. -/
theorem test_classify_empty_range :
    [0, 1, 2].map (fun hi => classify { Profile.ref306 with upNum := 2 } hi 1) = [.zero, .zero, .invalid] := by decide

/-- W2: the fifth bit of the word of 0xA5. -/
theorem test_shift_bit :
    (after (exec (.shift false) (inWord 10 4 0 0b000001010 0))).map (fun s => (s.sh, s.nbits, s.phase)) =
      some (0b000010100, 5, .cellLo) := by decide

/-- W2: the ninth bit. -/
theorem test_shift_word :
    (after (exec (.shift true) (inWord 20 8 0 0b010100101 0))).map (fun s => (s.sh, s.nbits, s.byteHi, s.nword)) =
      some (0b101001011, 0, 0xA5, 1) := by decide

/-- W5: the parity bit of word 0 flipped. -/
theorem test_wordchk :
    (after (exec (.wordchk 0b000000110) (inWord 10 0 0 0b000000110 0))).map (fun s => (s.phase, s.status, s.byteHi)) =
      some (.idle, .parityError, 0) := by decide

/-- W3. -/
theorem test_parity_ok :
    [0b000000000, 0b000000110, 0b100000111, 0b111111110].map parityOk = [false, false, false, false] ∧
    [0b000000001, 0b101001011, 0b111111100, 0b111111111].map parityOk = [true, true, true, true] ∧
    (after (exec (.parityOk 0b000000110) State.reset)).map (·.result) = some (.parity false) := by decide

/-- W11: the first and the third case. -/
theorem test_frame :
    (after (exec (.frame 0x66) (inWord 11 0 1 0b011001101 0x08))).map (fun s => (s.raw, s.status)) =
      some (2150, .tempOutOfRange) ∧
    (after (exec (.frame 0x00) (inWord 11 0 1 0b000000001 0x80))).map (fun s => (s.raw, s.tempNum)) =
      some (32768, 6451250) := by decide

/-- F1 and F9. -/
theorem test_convert :
    (after (exec (.convert 0) (inWord 20 0 1 0b000000001 0))).map (fun s => (s.tempNum, s.status)) =
      some (-102350, .ok) ∧
    (after (exec (.convert 2048) (inWord 20 0 1 0b000000001 8))).map (fun s => (s.tempNum, s.status)) =
      some (307250, .tempOutOfRange) := by decide

/-- F8: the bound is inclusive. F9: one above. -/
theorem test_rangechk :
    (after (exec (.rangechk 307050) (inWord 20 0 1 0 0))).map (·.status) = some .ok ∧
    (after (exec (.rangechk 307250) (inWord 20 0 1 0 0))).map (·.status) = some .tempOutOfRange ∧
    (after (exec (.rangechk (-102351)) (inWord 20 0 1 0 0))).map (·.status) = some .tempOutOfRange := by decide

/-- P3, tick 492: OK, and the supply is off. -/
theorem test_finish :
    (after (exec .finish (inRead cfgP .cellHi 8 4))).map (fun s => (s.phase, s.status, s.pwr, s.valid)) =
      some (.idle, .ok, false, true) := by decide

/-- Section 2.7: the outputs after an abort. -/
theorem test_abort :
    (after (exec (.abort .parityError) (inRead cfgP .cellHi 8 4))).map State.outputs =
      some { busy := false, done := true, valid := false, status := 5, raw := 0, tempNum := 0, vddEn := false } := by
  decide

/-- R96: `START(10, 10)` from WAIT_STROBE (P1, ticks 4 to 25). -/
theorem test_start :
    after (exec (.start 10 10) (inRead .ref .waitStrobe 3 0)) = some (inRead .ref .startHi 10 10) := by decide

/-- P1, ticks 26 to 47. -/
theorem test_sym0 :
    after (exec (.sym0 10 10) (inRead .ref .startHi 10 10)) = some (inRead .ref .cellHi 10 10) := by decide

/-- P1: the falling edge of a cell that was a 1 delivers it, and the next 1 is measured. -/
theorem test_sym1 :
    (after (exec (.sym1 10 20) (inWord 20 6 0 0b000000000 0))).map (fun s => (s.sh, s.nbits, s.cnt, s.phase)) =
      some (0b000000001, 7, 20, .cellHi) := by decide

/-- B9: `CELL(10, 30)`. -/
theorem test_symx :
    (after (exec (.symx 10 30) (inRead .ref .startHi 10 10))).map (fun s => (s.status, s.t)) =
      some (.invalidBitTiming, 10) := by decide

/-- W6: word 0 passes, word 1 does not. -/
theorem test_word :
    (after (exec (.word 0b000000111) (inRead .ref .startHi 10 10))).map (fun s => (s.byteHi, s.nword)) = some (3, 1) ∧
    (after (exec (.word 0b011111111) (inWord 20 0 1 0b000000111 3))).map (fun s => (s.status, s.byteHi, s.nword)) =
      some (.parityError, 3, 1) := by decide

/-- F8. -/
theorem test_frame_bits :
    (after (exec (.frameBits 0b000001110111111111) (inRead .ref .startHi 10 10))).map
      (fun s => (s.raw, s.tempNum, s.status, s.sh)) = some (2047, 307050, .ok, 0b111111111) := by decide +kernel

/-- W5 and W6: the first word that fails its parity is reported and stands in `SH`; `RAW` is not assembled. -/
theorem test_frame_bits_parity :
    ((after (exec (.frameBits 0b000000110111111111) (inRead .ref .startHi 10 10))).map
      (fun s => (s.status, s.sh, s.nword, s.raw)) = some (.parityError, 0b000000110, 0, 0)) ∧
    ((after (exec (.frameBits 0b000000111011111111) (inRead .ref .startHi 10 10))).map
      (fun s => (s.status, s.sh, s.nword, s.raw)) = some (.parityError, 0b011111111, 1, 0)) := by
  constructor <;> decide +kernel

/-- C6: no bit of `RAW` is masked. -/
theorem test_raw : (after (exec (.raw 0xFFFF) State.reset)).map (·.raw) = some 65535 := by decide

/-- R87: each row records its code. -/
theorem test_status_rows :
    [.statusNone, .statusOk, .statusTimeout, .statusInvalidStrobeLength, .statusInvalidBitTiming, .statusParityError,
      .statusTempOutOfRange].map (fun i => (after (exec i (inRead .ref .cellHi 0 1))).map (·.status.code)) =
      [some 0, some 1, some 2, some 3, some 4, some 5, some 6] := by decide

/-- R88: each row's code. -/
theorem test_phase_rows :
    [.phaseIdle, .phaseSettle, .phaseWaitStrobe, .phaseMeasStrobe, .phaseStartHi, .phaseCellLo, .phaseCellHi].map
      (fun i => (after (exec i (State.resetWith cfgP .ref []))).map (·.phase.code)) =
      [some 0, some 1, some 2, some 3, some 4, some 5, some 6] := by decide

/-- R21: a transfer to another phase restarts the count. -/
theorem test_phase_row_count :
    (after (exec .phaseCellLo (inRead .ref .cellHi 7 10))).map (·.cnt) = some 0 ∧
    (after (exec .phaseCellHi (inRead .ref .cellHi 7 10))).map (·.cnt) = some 7 := by decide

/-- A table whose five rows are the constants of `REF`, for the MODEL rows. -/
def fullTable : ProfileTable :=
  { p306 := some .ref306, p206 := some .ref306, p316 := some .ref306, p506 := some .ref306, p516 := some .ref306 }

/-- R89: each row selects its model. -/
theorem test_model_rows :
    [.model306, .model206, .model316, .model506, .model516].map
      (fun i => (after (exec i (State.resetWith .ref fullTable []))).map (fun s => modelCode s.cfg.model)) =
      [some 0, some 1, some 2, some 3, some 4] := by decide

/-- P5, ticks 5 and 14, through the step: the operation is selected by the inputs and the phase. -/
theorem test_step_selects :
    after (step { inRead .ref .measStrobe 2 0 with inputs := one false true true }) =
      some (inRead .ref .startHi 0 2) := by decide

/-! ### Cases that meet the hypotheses of the statements -/

/-- The state after one step. -/
def stepped (s : State) : State := { tick s.sample s with inputs := s.inputs.tail }

theorem step_stepped {s : State} (h : ConfigOk s.cfg) : step s = .next (stepped s) := step_eq h

/-- `s` with these inputs of the next tick. -/
def withTick (s : State) (rst start zw : Bool) : State := { s with inputs := one rst start zw }

theorem witness_StepRunsSelectedOperation :
    ConfigOk State.reset.cfg ∧ decodeSel State.reset.selWord = .ok (.nop true) := ⟨cfg_ref_ok, rfl⟩

theorem witness_StepFollowsStepRule : ConfigOk State.reset.cfg := cfg_ref_ok

theorem witness_ResetClearsEveryRegister :
    ConfigOk (withTick finished true true true).cfg ∧ SequencerInv (withTick finished true true true) ∧
      (withTick finished true true true).sample.rst = true := ⟨cfg_ref_ok, by decide, rfl⟩

theorem witness_NopChangesNothing :
    ConfigOk finished.cfg ∧ finished.phase = .idle ∧ finished.sample.rst = false ∧ finished.sample.start = false :=
  ⟨cfg_ref_ok, rfl, rfl, rfl⟩

theorem witness_CellhiFollowsRule : SequencerInv (inRead .ref .cellHi 29 10) ∧ (inRead .ref .cellHi 29 10).phase = .cellHi := by
  decide

theorem witness_ClassifyFollowsRule :
    29 ≤ 30 ∧ classify Profile.ref306 30 10 = .invalid ∧ 15 ≤ 30 ∧ classify Profile.ref306 15 10 = .one := by decide

theorem witness_SymbolsPartitionDurations :
    RatiosPositive Profile.ref306 ∧ ThresholdBelowUpper Profile.ref306 ∧ 1 ≤ 1 := by decide

theorem witness_ParityIsOddParity : 0 < 9 ∧ 8 < 9 ∧ 0 ≠ 8 := by decide

theorem witness_NineShiftsReplaceWord : 7 < 8 := by decide

theorem witness_ValidFramesAreEncodings : parityOk 0b000000111 = true ∧ parityOk 0b111111111 = true := by decide

theorem witness_RangeFormsAgree : 1 ≤ Profile.ref306.scaleNum := by decide

theorem witness_ModelRowsSelectProfiles :
    (State.resetWith .ref fullTable []).phase = .idle ∧
    (State.resetWith .ref fullTable []).profiles.p306 = some .ref306 ∧ ConfigOk { Cfg.ref with model := .m306 } ∧
    (State.resetWith .ref fullTable []).profiles.p206 = some .ref306 ∧ ConfigOk { Cfg.ref with model := .m206 } ∧
    (State.resetWith .ref fullTable []).profiles.p316 = some .ref306 ∧ ConfigOk { Cfg.ref with model := .m316 } ∧
    (State.resetWith .ref fullTable []).profiles.p506 = some .ref306 ∧ ConfigOk { Cfg.ref with model := .m506 } ∧
    (State.resetWith .ref fullTable []).profiles.p516 = some .ref306 ∧ ConfigOk { Cfg.ref with model := .m516 } :=
  ⟨rfl, rfl, cfg_ref_ok, rfl, cfg_ref_ok, rfl, cfg_ref_ok, rfl, cfg_ref_ok, rfl, cfg_ref_ok⟩

theorem witness_ModelRowsRefuse_constants :
    (Model.m206, Instr.model206) ∈ [(Model.m306, Instr.model306), (.m206, .model206), (.m316, .model316),
      (.m506, .model506), (.m516, .model516)] ∧ profileOf State.reset.profiles .m206 = none := by decide

/-- A table whose row of 206 breaks R9(c). -/
def badTable : ProfileTable := { fullTable with p206 := some { Profile.ref306 with tmin := 200 } }

theorem witness_ModelRowsRefuse_configuration :
    profileOf badTable .m206 = some { Profile.ref306 with tmin := 200 } ∧
      ¬ConfigOk { Cfg.ref with model := .m206, profile := { Profile.ref306 with tmin := 200 } } := by decide

theorem witness_ModelRowsRefuse_reading :
    profileOf fullTable .m206 = some .ref306 ∧ ConfigOk { Cfg.ref with model := .m206, profile := .ref306 } ∧
      { inRead .ref .cellHi 0 1 with profiles := fullTable }.phase ≠ .idle ∧
      { Cfg.ref with model := .m206, profile := .ref306 } ≠ Cfg.ref := by decide

theorem witness_StartCellMeasuresStrobe :
    (inRead .ref .waitStrobe 99 0).phase = .waitStrobe ∧ 1 ≤ 39 ∧ 39 + 1 ≤ Cfg.ref.strobeMax ∧
      39 + 1 ≤ Cfg.ref.edgeWaitMax := by decide

theorem witness_DataCellRowsDeliverSymbols :
    (inRead .ref .startHi 0 10).phase = .startHi ∧ 1 ≤ Cfg.ref.profile.upNum ∧ 1 ≤ (inRead .ref .startHi 0 10).t ∧
      39 + 1 ≤ Cfg.ref.edgeWaitMax ∧ classify Cfg.ref.profile 14 10 = .zero ∧ classify Cfg.ref.profile 15 10 = .one ∧
      classify Cfg.ref.profile 29 10 = .one ∧ classify Cfg.ref.profile 30 10 = .invalid := by decide

/-- A later cell: the first sample of the next one ends it and delivers a 1. -/
def laterCell : State := inWord 20 6 0 0 0

theorem witness_DataCellRowsDeliverSymbols_later_cells :
    exec (.cellhi false false) laterCell = .next (cellhi false laterCell) ∧
      laterCell.phase = .cellHi ∧ 1 ≤ laterCell.cfg.profile.upNum ∧ 1 ≤ laterCell.t ∧
      39 + 1 ≤ laterCell.cfg.edgeWaitMax ∧ (cellhi false laterCell).phase = .cellLo ∧
      (cellhi false laterCell).t = 10 ∧ (cellhi false laterCell).cfg.profile = Cfg.ref.profile :=
  ⟨rfl, by decide⟩

/-- The first sample completes a word whose parity fails (W4): the read has ended before the cell is measured. -/
theorem witness_DataCellRowsDeliverSymbols_read_ended :
    exec (.cellhi false false) (inWord 20 8 0 0b010000011 0) =
        .next (cellhi false (inWord 20 8 0 0b010000011 0)) ∧
      (inWord 20 8 0 0b010000011 0).phase = .cellHi ∧ 1 ≤ (inWord 20 8 0 0b010000011 0).t ∧
      (cellhi false (inWord 20 8 0 0b010000011 0)).phase = .idle := ⟨rfl, by decide⟩

theorem witness_CellRowsAreTheirSamples : ConfigOk (inRead cfgP .waitStrobe 0 0).cfg := cfgP_ok

theorem witness_WordRowFillsWord :
    InCells (inRead .ref .startHi 0 10) ∧ (inRead .ref .startHi 0 10).nbits = 0 ∧ ¬InCells State.reset := by decide

theorem witness_FrameRowYieldsRaw :
    InCells (inRead .ref .startHi 0 10) ∧ (inRead .ref .startHi 0 10).nbits = 0 ∧
      (inRead .ref .startHi 0 10).nword = 0 := by decide

/-- Clause by clause: W5 (word 0 fails), W6 and W7 (word 1 fails), P1 (both pass). -/
theorem witness_FrameRowChecksBothWords :
    ¬InCells State.reset ∧ InCells (inRead .ref .startHi 0 10) ∧ (inRead .ref .startHi 0 10).nbits = 0 ∧
      (inRead .ref .startHi 0 10).nword = 0 ∧ parityOk 0b000000110 = false ∧ parityOk 0b000000111 = true ∧
      parityOk 0b011111111 = false ∧ parityOk 0b111111110 = false ∧ parityOk 0b111111111 = true := by decide

/-- P1's first ten bits: the first word has passed. -/
def tenBits : List Bool := [false, false, false, false, false, false, true, true, true, true]

theorem witness_BitsFillRegisters :
    InCells (inRead .ref .cellHi 0 10) ∧ (inRead .ref .cellHi 0 10).nbits = 0 ∧ (inRead .ref .cellHi 0 10).nword = 0 ∧
      tenBits.length ≤ 17 ∧ InCells (deliverBits tenBits (inRead .ref .cellHi 0 10)) ∧ 0 < tenBits.length % 9 ∧
      tenBits.length / 9 = 1 ∧ 7 < 8 := by decide

/-- Clause by clause, at the boundary: T1, T3, T7, T8, T11. -/
theorem witness_StrobeRunLengthView :
    ConfigOk (inRead .ref .waitStrobe 0 0).cfg ∧ (inRead .ref .waitStrobe 0 0).phase = .waitStrobe ∧
    (inRead .ref .waitStrobe 0 0).cnt = 0 ∧ 100 ≥ Cfg.ref.strobeWaitMax ∧ 99 < Cfg.ref.strobeWaitMax ∧
    1 ≤ 1 ∧ 41 ≥ Cfg.ref.strobeMax + 1 ∧ 2 ≤ 40 ∧ 40 ≤ Cfg.ref.strobeMax ∧ 41 ≥ Cfg.ref.edgeWaitMax + 1 ∧
    40 ≤ Cfg.ref.edgeWaitMax := by decide

/-- Clause by clause, at the boundary: T12, T13, B1. -/
theorem witness_CellRunLengthView :
    ConfigOk (inRead .ref .cellLo 0 10).cfg ∧ (inRead .ref .cellLo 0 10).phase = .cellLo ∧
    (inRead .ref .cellLo 0 10).cnt = 0 ∧ 1 ≤ (inRead .ref .cellLo 0 10).t ∧ 41 ≥ Cfg.ref.edgeWaitMax + 1 ∧
    1 ≤ 40 ∧ 40 ≤ Cfg.ref.edgeWaitMax ∧ classify Cfg.ref.profile (15 - 1) 10 = .zero ∧
    classify Cfg.ref.profile (16 - 1) 10 = .one ∧ classify Cfg.ref.profile (31 - 1) 10 = .invalid := by decide

/-- V3: READ, then four ticks of settling with the line low. -/
def settling : State :=
  { State.resetWith cfgP .ref [] with
    inputs := one false true true ++ (List.replicate 4 { rst := false, start := false, zw := false } ++ []) }

theorem witness_SettleDelayPrecedesFirstSample :
    ConfigOk settling.cfg ∧ settling.cfg.powerCtrl = true ∧ settling.phase = .idle ∧
    (∀ i ∈ List.replicate 4 ({ rst := false, start := false, zw := false } : Input), i.rst = false) ∧
    (List.replicate 4 ({ rst := false, start := false, zw := false } : Input)).length = settling.cfg.settleTicks ∧
    settling.inputs = { rst := false, start := true, zw := true } ::
      (List.replicate 4 ({ rst := false, start := false, zw := false } : Input) ++ []) := by decide

/-- P1 and T2: `a = 99`, `t = 10`. The bounds are met by `t = 39` too (T8). -/
theorem witness_FrameTraceDecodes :
    ConfigOk (inRead .ref .waitStrobe 0 0).cfg ∧ (inRead .ref .waitStrobe 0 0).phase = .waitStrobe ∧
    (inRead .ref .waitStrobe 0 0).cnt = 0 ∧ (inRead .ref .waitStrobe 0 0).nbits = 0 ∧
    (inRead .ref .waitStrobe 0 0).nword = 0 ∧ 99 < Cfg.ref.strobeWaitMax ∧ 1 ≤ 39 ∧ 39 + 1 ≤ Cfg.ref.strobeMax ∧
    39 + 1 ≤ Cfg.ref.edgeWaitMax ∧ classify Cfg.ref.profile 39 39 = .zero ∧
    classify Cfg.ref.profile (2 * 39) 39 = .one := by decide

theorem witness_ReadEndsWithinBound :
    ConfigOk (withTick finished false true true).cfg ∧ (withTick finished false true true).phase = .idle ∧
    (withTick finished false true true).sample.start = true ∧
    (∀ i ∈ (withTick finished false true true).inputs, i.rst = false) := by decide

theorem witness_ResultsHeldWhileIdle :
    ConfigOk (withTick finished false false false).cfg ∧ (withTick finished false false false).phase = .idle ∧
    (∀ i ∈ (withTick finished false false false).inputs.take 5, i.rst = false ∧ i.start = false) := by decide

theorem witness_StepKeepsSequencerInvariant :
    SequencerInv (withTick (inRead cfgP .cellHi 29 10) false false true) ∧
    step (withTick (inRead cfgP .cellHi 29 10) false false true) =
      .next (stepped (withTick (inRead cfgP .cellHi 29 10) false false true)) := ⟨by decide, step_stepped cfgP_ok⟩

/-- P1 before its last tick. -/
def lastEdge : State := withTick (inWord 20 8 1 0b011111111 3) false false false

theorem witness_StepKeepsDataInvariant :
    SequencerInv lastEdge ∧ DataInv lastEdge ∧ step lastEdge = .next (stepped lastEdge) :=
  ⟨by decide, by decide, step_stepped cfg_ref_ok⟩

theorem witness_RegistersFitWidths :
    ConfigOk (inRead .ref .cellHi 116 39).cfg ∧ SequencerInv (inRead .ref .cellHi 116 39) ∧
      DataInv (inRead .ref .cellHi 116 39) := ⟨cfg_ref_ok, by decide, by decide⟩

theorem witness_PhaseTransitionTable :
    ConfigOk lastEdge.cfg ∧ SequencerInv lastEdge ∧ ConfigOk (withTick finished true false true).cfg ∧
      SequencerInv (withTick finished true false true) := ⟨cfg_ref_ok, by decide, cfg_ref_ok, by decide⟩

/-- What the statement about the causes of exceptions supposes, of a step from `s` that ends with `st`. -/
def EndsWith (s : State) (st : Status) : Prop :=
  SequencerInv s ∧ DataInv s ∧ s.phase ≠ .idle ∧ step s = .next (stepped s) ∧ (stepped s).phase = .idle ∧
    s.sample.rst = false ∧ (stepped s).status = st

theorem witness_ExceptionsComeFromTheirCauses_timeout_idle_line :
    EndsWith (withTick (inRead .ref .waitStrobe 99 0) false false true) .timeout :=
  ⟨by decide, by decide, by decide, step_stepped cfg_ref_ok, by decide, by decide, by decide⟩

theorem witness_ExceptionsComeFromTheirCauses_timeout_stuck_low :
    EndsWith (withTick (inRead .ref .measStrobe 39 0) false false false) .timeout :=
  ⟨by decide, by decide, by decide, step_stepped cfg_ref_ok, by decide, by decide, by decide⟩

theorem witness_ExceptionsComeFromTheirCauses_timeout_start_high :
    EndsWith (withTick (inRead .ref .startHi 39 10) false false true) .timeout :=
  ⟨by decide, by decide, by decide, step_stepped cfg_ref_ok, by decide, by decide, by decide⟩

theorem witness_ExceptionsComeFromTheirCauses_timeout_cell_low :
    EndsWith (withTick (inRead .ref .cellLo 39 10) false false false) .timeout :=
  ⟨by decide, by decide, by decide, step_stepped cfg_ref_ok, by decide, by decide, by decide⟩

theorem witness_ExceptionsComeFromTheirCauses_strobe :
    EndsWith (withTick (inRead .ref .measStrobe 0 0) false false true) .invalidStrobeLength :=
  ⟨by decide, by decide, by decide, step_stepped cfg_ref_ok, by decide, by decide, by decide⟩

theorem witness_ExceptionsComeFromTheirCauses_timing :
    EndsWith (withTick (inRead .ref .cellHi 29 10) false false true) .invalidBitTiming :=
  ⟨by decide, by decide, by decide, step_stepped cfg_ref_ok, by decide, by decide, by decide⟩

theorem witness_ExceptionsComeFromTheirCauses_parity :
    EndsWith (withTick (inWord 20 8 0 0b010000011 0) false false false) .parityError :=
  ⟨by decide, by decide, by decide, step_stepped cfg_ref_ok, by decide, by decide, by decide⟩

theorem witness_ExceptionsComeFromTheirCauses_range :
    EndsWith (withTick (inWord 20 8 1 0b000000000 8) false false false) .tempOutOfRange :=
  ⟨by decide, by decide, by decide, step_stepped cfg_ref_ok, by decide, by decide, by decide⟩

theorem witness_OkOnlyAfterWholeFrame_ok :
    SequencerInv lastEdge ∧ step lastEdge = .next (stepped lastEdge) ∧ (stepped lastEdge).status = .ok ∧
      lastEdge.status ≠ .ok := ⟨by decide, step_stepped cfg_ref_ok, by decide, by decide⟩

/-- P1, tick 254. -/
def firstWordEdge : State := withTick (inWord 20 8 0 0b000000011 0) false false false

theorem witness_OkOnlyAfterWholeFrame_first_word :
    SequencerInv firstWordEdge ∧ step firstWordEdge = .next (stepped firstWordEdge) ∧ firstWordEdge.nword = 0 ∧
      (stepped firstWordEdge).nword = 1 := ⟨by decide, step_stepped cfg_ref_ok, by decide, by decide⟩

theorem witness_PortsTellProgress :
    SequencerInv lastEdge ∧ step lastEdge = .next (stepped lastEdge) ∧ lastEdge.phase ≠ .idle ∧
      lastEdge.sample.rst = false := ⟨by decide, step_stepped cfg_ref_ok, by decide, by decide⟩

/-- What the statement about unexamined inputs supposes of two inputs. -/
abbrev Unexamined (s : State) (i j : Input) : Prop :=
  i.rst = j.rst ∧ (i.rst = true ∨
    ((s.phase = .idle → i.start = j.start) ∧ (s.phase ≠ .idle → s.phase ≠ .settle → i.zw = j.zw)))

/-- At a reset tick, in IDLE, in SETTLE and in a phase that samples the line, with inputs that differ. -/
theorem witness_UnexaminedInputsIgnored :
    Unexamined (inRead .ref .cellHi 0 1) ⟨true, true, true⟩ ⟨true, false, false⟩ ∧
    Unexamined State.reset ⟨false, true, true⟩ ⟨false, true, false⟩ ∧
    Unexamined (inRead cfgP .settle 0 0) ⟨false, true, true⟩ ⟨false, false, false⟩ ∧
    Unexamined (inRead .ref .cellHi 0 1) ⟨false, true, true⟩ ⟨false, false, true⟩ := by decide

theorem witness_ReadsAreIndependent :
    ConfigOk (withTick finished false true true).cfg ∧ SequencerInv (withTick finished false true true) ∧
    SequencerInv (withTick State.reset false true true) ∧ (withTick finished false true true).phase = .idle ∧
    (withTick State.reset false true true).phase = .idle ∧
    (withTick finished false true true).cfg = (withTick State.reset false true true).cfg ∧
    (withTick finished false true true).profiles = (withTick State.reset false true true).profiles ∧
    (withTick finished false true true).inputs = (withTick State.reset false true true).inputs ∧
    (withTick finished false true true).sample.start = true :=
  ⟨cfg_ref_ok, by decide, by decide, rfl, rfl, rfl, rfl, rfl, rfl⟩

theorem witness_ConfigurationIsImmutable : step lastEdge = .next (stepped lastEdge) := step_stepped cfg_ref_ok

theorem witness_RunIsFoldOfTicks :
    ConfigOk lastEdge.cfg ∧ lastEdge.inputs = one false false false ++ [] := by decide

theorem witness_DecodeEncodeRoundTrip :
    Instr.wf (afterStrobe 10) (.sym1 39 29) = true ∧
      encode (.sym1 39 29) = some (.cell (List.replicate 40 false ++ List.replicate 30 true)) := ⟨rfl, rfl⟩

theorem witness_EncodeDecodeRoundTrip : decode beforeStrobe (.sel 0b011011) = .ok (.cellhi true true) := rfl


end Sys2Proof.Tests
end

section
/-! PROOFS. The scope: the constraints of R9 on a configuration, the widths they buy, and the PHASE rows as control
transfers (R12, R21). -/

namespace Sys2Proof.Machine

/-! ### The longest high run (R9(e)) -/

/-- `ceil(n / d)` is the least `m` with `n <= m * d`. -/
theorem ceilDiv_le_iff {n d m : Nat} (hd : 1 ≤ d) : ceilDiv n d ≤ m ↔ n ≤ m * d := by
  rw [ceilDiv, ← Nat.ceilDiv_eq_add_pred_div, ceilDiv_le_iff_le_mul hd, Nat.mul_comm]

theorem hlim_le_iff {p : Profile} {t m : Nat} (hd : 1 ≤ p.upDen) : hlim p t ≤ m ↔ p.upNum * t ≤ m * p.upDen :=
  ceilDiv_le_iff hd

/-- `HLIM` is below `N` exactly when some duration below `N` reaches the upper bound. -/
theorem hlim_lt_iff_exists {p : Profile} {t N : Nat} (hd : 1 ≤ p.upDen) :
    hlim p t < N ↔ ∃ m, m < N ∧ p.upNum * t ≤ m * p.upDen := by
  constructor
  · intro h
    exact ⟨hlim p t, h, (hlim_le_iff hd).1 le_rfl⟩
  · rintro ⟨m, hm, hreach⟩
    exact lt_of_le_of_lt ((hlim_le_iff hd).2 hreach) hm

/-- A high run that is still valid after a strobe within its budget is shorter than `HLIM_MAX` (R42(d)). -/
theorem lt_hlimMax {c : Cfg} {n t : Nat} (hd : 1 ≤ c.profile.upDen) (ht : t ≤ c.strobeMax - 1)
    (hn : n * c.profile.upDen < c.profile.upNum * t) : n < hlimMax c := by
  by_contra hge
  have hreach : c.profile.upNum * (c.strobeMax - 1) ≤ n * c.profile.upDen := (hlim_le_iff hd).1 (not_lt.1 hge)
  have hmono : c.profile.upNum * t ≤ c.profile.upNum * (c.strobeMax - 1) := Nat.mul_le_mul_left _ ht
  omega

theorem counterWide_iff {c : Cfg} (hd : 1 ≤ c.profile.upDen) :
    CounterWide c ↔
      max c.strobeWaitMax (max c.strobeMax (max c.edgeWaitMax c.settleTicks)) < 2 ^ c.cntW ∧
        ∃ m, m < 2 ^ c.cntW ∧ c.profile.upNum * (c.strobeMax - 1) ≤ m * c.profile.upDen := by
  rw [CounterWide, hlimMax, hlim_lt_iff_exists hd]
  simp only [max_lt_iff, and_assoc]

/-! ### The temperature numerator (R9(f)) -/

theorem tempOf_zero (p : Profile) : tempOf p 0 = -p.offset * p.scaleDen := by
  simp [tempOf]

theorem tempOf_max (p : Profile) : tempOf p 65535 = 65535 * (p.scaleNum : Int) - p.offset * p.scaleDen := rfl

/-- The conversion is monotone in the raw value (R170). -/
theorem tempOf_mono (p : Profile) {r r' : Raw16} (h : r.toNat ≤ r'.toNat) : tempOf p r ≤ tempOf p r' := by
  have hmul : (r.toNat : Int) * p.scaleNum ≤ r'.toNat * p.scaleNum :=
    Int.mul_le_mul_of_nonneg_right (Int.ofNat_le.2 h) (Int.natCast_nonneg _)
  unfold tempOf
  omega

theorem tempOf_zero_le (p : Profile) (r : Raw16) : tempOf p 0 ≤ tempOf p r := tempOf_mono p (Nat.zero_le _)

theorem tempOf_le_max (p : Profile) (r : Raw16) : tempOf p r ≤ tempOf p 65535 :=
  tempOf_mono p (Nat.le_of_lt_succ r.isLt)

theorem tempWide_iff {c : Cfg} :
    TempWide c ↔
      1 ≤ c.tempW ∧ -(2 ^ (c.tempW - 1) : Int) ≤ -c.profile.offset * c.profile.scaleDen ∧
        65535 * (c.profile.scaleNum : Int) - c.profile.offset * c.profile.scaleDen < (2 ^ (c.tempW - 1) : Int) := by
  rw [← tempOf_zero, ← tempOf_max]
  constructor
  · rintro ⟨⟨hw, hlo, -⟩, -, -, hhi⟩
    exact ⟨hw, hlo, hhi⟩
  · rintro ⟨hw, hlo, hhi⟩
    have hle : tempOf c.profile 0 ≤ tempOf c.profile 65535 := tempOf_zero_le _ _
    exact ⟨⟨hw, hlo, hle.trans_lt hhi⟩, hw, hlo.trans hle, hhi⟩

/-- The result of every conversion fits `TEMP_W`, not only of the least and the greatest raw value. -/
theorem fitsSigned_tempOf {c : Cfg} (h : TempWide c) (r : Raw16) : FitsSigned c.tempW (tempOf c.profile r) := by
  obtain ⟨⟨hw, hlo, -⟩, -, -, hhi⟩ := h
  exact ⟨hw, hlo.trans (tempOf_zero_le _ r), (tempOf_le_max _ r).trans_lt hhi⟩

theorem fitsSigned_zero {w : Nat} (h : 1 ≤ w) : FitsSigned w 0 := by
  have hpos : (0 : Int) < 2 ^ (w - 1) := by positivity
  exact ⟨h, by omega, hpos⟩

/-! ### The refusal of a configuration (R9, U7) -/

/-- A step is refused for its configuration when R9 is broken, and for no other cause: otherwise it is a tick. -/
theorem step_refused_iff {s : State} : step s = .refused .invalidConfiguration ↔ ¬ConfigOk s.cfg := by
  constructor
  · intro h hc
    rw [step_eq_tick hc] at h
    cases h
  · exact step_refused

/-- Settles O3: the refusal is that of `ConfigOk`, clause by clause; R9(e) and (f) are the two whose written-out form
differs from the model's. -/
theorem badConfigurationRefused : Obligations.BadConfigurationRefused := by
  intro s
  rw [step_refused_iff, not_iff_not]
  constructor
  · rintro ⟨hratios, hthr, ⟨hrange, hpayload⟩, ⟨hwait, hstrobe, hedge, hsettle⟩, hcnt, htemp⟩
    have ⟨_, _, _, hupDen, _⟩ := hratios
    exact ⟨hratios, hthr, hrange, hpayload, ⟨hwait, hstrobe, hedge⟩, hsettle, (counterWide_iff hupDen).1 hcnt,
      tempWide_iff.1 htemp⟩
  · rintro ⟨hratios, hthr, hrange, hpayload, ⟨hwait, hstrobe, hedge⟩, hsettle, hcnt, htemp⟩
    have ⟨_, _, _, hupDen, _⟩ := hratios
    exact ⟨hratios, hthr, ⟨hrange, hpayload⟩, ⟨hwait, hstrobe, hedge, hsettle⟩, (counterWide_iff hupDen).2 hcnt,
      tempWide_iff.2 htemp⟩

/-! ### The widths of the registers (R9, R13, R28) -/

/-- `CNT` fits `CNT_W`: it is below the budget of its phase, and in CELL_HI below `HLIM_MAX`. -/
theorem cnt_fits {s : State} (hc : ConfigOk s.cfg) (hs : SequencerInv s) : s.cnt < 2 ^ s.cfg.cntW := by
  obtain ⟨⟨-, -, -, hupDen, -⟩, -, -, -, ⟨hwait, hstrobe, hedge, hsettle, hlongest⟩, -⟩ := hc
  obtain ⟨-, -, ht, hhi, ⟨bwait, bstrobe, bedge, bsettle⟩, -, -, hidle⟩ := hs
  cases hp : s.phase with
  | idle => have := hidle hp; omega
  | settle => have := bsettle hp; omega
  | waitStrobe => have := bwait hp; omega
  | measStrobe => have := bstrobe hp; omega
  | startHi => have := bedge (.inl hp); omega
  | cellLo => have := bedge (.inr hp); omega
  | cellHi => exact (lt_hlimMax hupDen (ht (.inr (.inr hp))).2 (hhi hp)).trans hlongest

/-- `T` fits `CNT_W`: it is never beyond the longest strobe. -/
theorem t_fits {s : State} (hc : ConfigOk s.cfg) (hd : DataInv s) : s.t < 2 ^ s.cfg.cntW := by
  obtain ⟨-, -, -, -, ⟨-, hstrobe, -⟩, -⟩ := hc
  obtain ⟨-, -, -, -, ht, -⟩ := hd
  omega

/-- `TEMP_NUM` fits `TEMP_W`: it is the conversion of `RAW`, or 0 without a measurement. -/
theorem tempNum_fits {s : State} (hc : ConfigOk s.cfg) (hd : DataInv s) : FitsSigned s.cfg.tempW s.tempNum := by
  obtain ⟨-, -, -, -, -, htemp⟩ := hc
  obtain ⟨hnone, hsome, -⟩ := hd
  by_cases hm : Measured s
  · obtain ⟨-, -, hconv, -⟩ := hsome hm
    exact hconv ▸ fitsSigned_tempOf htemp s.raw
  · obtain ⟨-, hzero⟩ := hnone hm
    obtain ⟨⟨hw, -⟩, -⟩ := htemp
    exact hzero ▸ fitsSigned_zero hw

/-- Settles O48, register by register. -/
theorem registersFitWidths : Obligations.RegistersFitWidths := by
  intro s hc hs hd
  have ⟨_, hnbits, _⟩ := hs
  exact ⟨cnt_fits hc hs, t_fits hc hd, by omega, tempNum_fits hc hd⟩

/-! ### The PHASE rows (R12, R21, R88) -/

/-- The control transfer as one record: `CNT` is kept when `PHASE` is already `p`. -/
theorem transfer_eq (s : State) (p : Phase) :
    s.transfer p = { s with phase := p, cnt := if s.phase = p then s.cnt else 0 } := by
  unfold State.transfer
  split
  · next h => subst h; rfl
  · rfl

/-- Settles O28: each row is the transfer to its phase. -/
theorem phaseRowsTransferControl : Obligations.PhaseRowsTransferControl := by
  intro s
  have hrow (p : Phase) : Host.Outcome.next (φ := Fault) (ρ := Refusal) (s.transfer p) =
      .next { s with phase := p, cnt := if s.phase = p then s.cnt else 0 } := congrArg _ (transfer_eq s p)
  have hsettle : exec .phaseSettle s = .next (if s.cfg.powerCtrl then s.transfer .settle else s) := rfl
  rw [transfer_eq] at hsettle
  exact ⟨hrow .idle, hsettle, hrow .waitStrobe, hrow .measStrobe, hrow .startHi, hrow .cellLo, hrow .cellHi⟩

end Sys2Proof.Machine
end

section
/-! PROOFS. The state and the step rule: what a tick does not examine, what it can do (said once, as `ReadTick`), what it
never changes; the run as a fold; the invariants of R42 and R43; the phase table of R31; what a read records; the ports;
the STATUS rows. -/

namespace Sys2Proof.Machine

/-! ### The step rule (R30, R92) -/

/-- Settles O1: the selector word has named the operation. -/
theorem stepRunsSelectedOperation : Obligations.StepRunsSelectedOperation := by
  intro s i hc hi
  refine ⟨?_, rfl⟩
  unfold step
  rw [if_pos hc, hi]

/-- Settles O2: the tick of each phase is the operation of that phase, and a tick is always a next state. -/
theorem stepFollowsStepRule : Obligations.StepFollowsStepRule := by
  intro s hc
  rw [step_eq_tick hc]
  refine ⟨⟨_, rfl⟩, ?_⟩
  cases hr : s.sample.rst with
  | true => rw [tick_rst hr]; rfl
  | false =>
    cases hp : s.phase with
    | idle => rw [tick_idle (s := s.consume) hr hp]; cases s.sample.start <;> rfl
    | settle => rw [tick_settle (s := s.consume) hr hp]; rfl
    | waitStrobe => rw [tick_waitStrobe (s := s.consume) hr hp]; rfl
    | measStrobe => rw [tick_measStrobe (s := s.consume) hr hp]; rfl
    | startHi => rw [tick_startHi (s := s.consume) hr hp]; rfl
    | cellLo => rw [tick_cellLo (s := s.consume) hr hp]; rfl
    | cellHi => rw [tick_cellHi (s := s.consume) hr hp]; rfl

/-- The step of a machine whose next input is `i`: the tick of `i`, the trace going on with `rest`. -/
theorem step_cons {s : State} (hc : ConfigOk s.cfg) (i : Input) (rest : List Input) :
    step { s with inputs := i :: rest } = .next { tick i s with inputs := rest } := by
  rw [step_eq_tick (s := { s with inputs := i :: rest }) hc]
  exact congrArg Host.Outcome.next (tick_inputs i s rest)

/-! ### What a tick does not examine (R62) -/

/-- The phases from WAIT_STROBE on sample the line and nothing else. -/
theorem tick_congr_zw {i j : Input} {s : State} (hi : i.rst = false) (hj : j.rst = false) (hidle : s.phase ≠ .idle)
    (hzw : s.phase ≠ .settle → i.zw = j.zw) : tick i s = tick j s := by
  cases hp : s.phase with
  | idle => exact absurd hp hidle
  | settle => rw [tick_settle hi hp, tick_settle hj hp]
  | waitStrobe => rw [tick_waitStrobe hi hp, tick_waitStrobe hj hp, hzw (by simp [hp])]
  | measStrobe => rw [tick_measStrobe hi hp, tick_measStrobe hj hp, hzw (by simp [hp])]
  | startHi => rw [tick_startHi hi hp, tick_startHi hj hp, hzw (by simp [hp])]
  | cellLo => rw [tick_cellLo hi hp, tick_cellLo hj hp, hzw (by simp [hp])]
  | cellHi => rw [tick_cellHi hi hp, tick_cellHi hj hp, hzw (by simp [hp])]

/-- A tick depends on no input that its phase does not examine: a reset looks at neither, IDLE at `start` alone. -/
theorem tick_congr {i j : Input} {s : State} (hrst : i.rst = j.rst)
    (hexamined : i.rst = true ∨
      ((s.phase = .idle → i.start = j.start) ∧ (s.phase ≠ .idle → s.phase ≠ .settle → i.zw = j.zw))) :
    tick i s = tick j s := by
  cases hi : i.rst with
  | true => rw [tick_rst hi, tick_rst (hrst ▸ hi)]
  | false =>
    obtain ⟨hstart, hzw⟩ := hexamined.resolve_left (by simp [hi])
    by_cases hidle : s.phase = .idle
    · rw [tick_idle hi hidle, tick_idle (hrst ▸ hi) hidle, hstart hidle]
    · exact tick_congr_zw hi (hrst ▸ hi) hidle (hzw hidle)

/-- Settles O53: the step is the tick of its input, and is refused for the configuration alone. -/
theorem unexaminedInputsIgnored : Obligations.UnexaminedInputsIgnored := by
  intro s i j rest hrst hexamined
  by_cases hc : ConfigOk s.cfg
  · rw [step_cons hc, step_cons hc, tick_congr hrst hexamined]
  · rw [step_refused (s := { s with inputs := i :: rest }) hc, step_refused (s := { s with inputs := j :: rest }) hc]

/-! ### What a tick can do (R30) -/

/-- What a tick of a read that is not reset can do, with `zw` sampled on the line (`tick_outcomes`). `w` stands
for `SH` after the bit of the cell; which bit it was is left open, since no invariant depends on it. -/
inductive ReadTick (zw : Bool) (s : State) : State → Prop
  /-- SETTLE is void without `POWER_CTRL` (R190); R42(a) excludes it. -/
  | void (hphase : s.phase = .settle) (hpower : s.cfg.powerCtrl = false) : ReadTick zw s s
  /-- The phase goes on waiting, within its budget. -/
  | wait (hbudget : CountWithinBudget s → CountWithinBudget (s.setCnt (s.cnt + 1)))
      (hhigh : s.phase = .cellHi → (s.cnt + 1) * s.cfg.profile.upDen < s.cfg.profile.upNum * s.t) :
      ReadTick zw s (s.setCnt (s.cnt + 1))
  /-- The line or the settle delay leads to the next phase. -/
  | enter {p : Phase}
      (hnext : s.phase = .settle ∧ p = .waitStrobe ∨ s.phase = .waitStrobe ∧ p = .measStrobe ∨
        s.phase = .startHi ∧ p = .cellLo ∨ s.phase = .cellLo ∧ p = .cellHi) : ReadTick zw s (s.enter p)
  /-- The strobe has been measured (R113). -/
  | strobe (hphase : s.phase = .measStrobe) (hcnt : s.cnt ≠ 0) : ReadTick zw s ({ s with t := s.cnt }.enter .startHi)
  /-- The timing of the line ends the read (R201 to R203). -/
  | timingFault {st : Status} (hst : st = .timeout ∨ st = .invalidStrobeLength ∨ st = .invalidBitTiming) :
      ReadTick zw s (s.endRead st)
  /-- A bit of an incomplete word (R150). -/
  | bit {w : Word9} (hphase : s.phase = .cellHi) (hnbits : s.nbits < 8) :
      ReadTick zw s ({ s with sh := w, nbits := s.nbits + 1 }.enter .cellLo)
  /-- The ninth bit of a word with bad parity (R151). -/
  | parityFault {w : Word9} (hphase : s.phase = .cellHi) (hnbits : 8 ≤ s.nbits) :
      ReadTick zw s ({ s with sh := w, nbits := 0 }.endRead .parityError)
  /-- The ninth bit of a good first word (R151). -/
  | firstWord {w : Word9} (hphase : s.phase = .cellHi) (hnbits : 8 ≤ s.nbits) (hparity : parityOk w = true)
      (hnword : s.nword = 0) :
      ReadTick zw s ({ s with sh := w, nbits := 0, byteHi := dataByte w, nword := 1 }.enter .cellLo)
  /-- The ninth bit of a good second word: the frame is converted and its range checked (R153, R170, R171). -/
  | measured {w : Word9} (hphase : s.phase = .cellHi) (hzw : zw = false) (hnbits : 8 ≤ s.nbits)
      (hparity : parityOk w = true) (hnword : s.nword = 1) :
      ReadTick zw s ({ s with
        sh := w, nbits := 0, raw := joinBytes s.byteHi (dataByte w)
        tempNum := tempOf s.cfg.profile (joinBytes s.byteHi (dataByte w)) }.endRead
          (if TempInRange s.cfg.profile (tempOf s.cfg.profile (joinBytes s.byteHi (dataByte w))) then .ok
           else .tempOutOfRange))

variable {s : State}

theorem settle_readTick (zw : Bool) (hp : s.phase = .settle) : ReadTick zw s (settle s) := by
  rcases settle_cases s with ⟨hpower, e⟩ | ⟨-, -, e⟩ | ⟨-, hcnt, e⟩ <;> rw [e]
  · exact .void hp hpower
  · exact .enter (.inl ⟨hp, rfl⟩)
  · exact .wait (by simp [CountWithinBudget, hp]; omega) (by simp [hp])

theorem waitstb_readTick (zw : Bool) (hp : s.phase = .waitStrobe) : ReadTick zw s (waitstb zw s) := by
  rcases waitstb_cases zw s with ⟨-, e⟩ | ⟨-, -, e⟩ | ⟨-, hcnt, e⟩ <;> rw [e]
  · exact .enter (.inr (.inl ⟨hp, rfl⟩))
  · exact .timingFault (.inl rfl)
  · exact .wait (by simp [CountWithinBudget, hp]; omega) (by simp [hp])

theorem measstb_readTick (hc : ConfigOk s.cfg) (zw : Bool) (hp : s.phase = .measStrobe) :
    ReadTick zw s (measstb zw s) := by
  obtain ⟨-, -, -, ⟨-, hmax, -⟩, -⟩ := hc
  rcases measstb_cases zw s with ⟨-, -, e⟩ | ⟨-, hcnt, e⟩ | ⟨-, -, e⟩ | ⟨-, hcnt, e⟩ <;> rw [e]
  · exact .timingFault (.inl rfl)
  · exact .wait (by simp [CountWithinBudget, hp]; omega) (by simp [hp])
  · exact .timingFault (.inr (.inl rfl))
  · exact .strobe hp hcnt

theorem starthi_readTick (hc : ConfigOk s.cfg) (zw : Bool) (hp : s.phase = .startHi) :
    ReadTick zw s (starthi zw s) := by
  obtain ⟨-, -, -, ⟨-, -, hmax, -⟩, -⟩ := hc
  rcases starthi_cases zw s with ⟨-, e⟩ | ⟨-, -, e⟩ | ⟨-, hcnt, e⟩ <;> rw [e]
  · exact .enter (.inr (.inr (.inl ⟨hp, rfl⟩)))
  · exact .timingFault (.inl rfl)
  · exact .wait (by simp [CountWithinBudget, hp]; omega) (by simp [hp])

theorem celllo_readTick (hc : ConfigOk s.cfg) (zw : Bool) (hp : s.phase = .cellLo) :
    ReadTick zw s (celllo zw s) := by
  obtain ⟨-, -, -, ⟨-, -, hmax, -⟩, -⟩ := hc
  rcases celllo_cases zw s with ⟨-, e⟩ | ⟨-, -, e⟩ | ⟨-, hcnt, e⟩ <;> rw [e]
  · exact .enter (.inr (.inr (.inr ⟨hp, rfl⟩)))
  · exact .timingFault (.inl rfl)
  · exact .wait (by simp [CountWithinBudget, hp]; omega) (by simp [hp])

/-- The delivery of a bit at the falling edge of a cell. -/
theorem shift_readTick (b : Bool) (hp : s.phase = .cellHi) : ReadTick false s (shift b s) := by
  rcases shift_outcomes b s with ⟨hn, e⟩ | ⟨hn, -, e⟩ | ⟨hn, hpar, hw, e⟩ | ⟨hn, hpar, hw, e⟩ <;> rw [e]
  · exact .bit hp hn
  · exact .parityFault hp hn
  · exact .firstWord hp hn hpar hw
  · exact .measured hp rfl hn hpar hw

theorem cellhi_readTick (zw : Bool) (hp : s.phase = .cellHi) : ReadTick zw s (cellhi zw s) := by
  rcases cellhi_cases zw s with ⟨-, -, e⟩ | ⟨-, hhigh, e⟩ | ⟨-, -, e⟩ | ⟨rfl, -, e⟩ <;> rw [e]
  · exact .timingFault (.inr (.inr rfl))
  · exact .wait (by simp [CountWithinBudget, hp]) fun _ => hhigh
  · exact .timingFault (.inr (.inr rfl))
  · exact shift_readTick _ hp

/-- A tick is a reset, an idle tick, the READ, or a tick of a read. -/
theorem tick_outcomes (hc : ConfigOk s.cfg) (i : Input) :
    (i.rst = true ∧ tick i s = resetRegs s) ∨
    (i.rst = false ∧ s.phase = .idle ∧ tick i s = s) ∨
    (i.rst = false ∧ s.phase = .idle ∧ tick i s = read s) ∨
    (i.rst = false ∧ s.phase ≠ .idle ∧ ReadTick i.zw s (tick i s)) := by
  rcases tick_cases i s with h | ⟨hr, ⟨hp, -, e⟩ | ⟨hp, -, e⟩ | h⟩
  · exact .inl h
  · exact .inr (.inl ⟨hr, hp, e⟩)
  · exact .inr (.inr (.inl ⟨hr, hp, e⟩))
  · refine .inr (.inr (.inr ⟨hr, ?_⟩))
    rcases h with ⟨hp, e⟩ | ⟨hp, e⟩ | ⟨hp, e⟩ | ⟨hp, e⟩ | ⟨hp, e⟩ | ⟨hp, e⟩ <;> rw [e]
    · exact ⟨by simp [hp], settle_readTick _ hp⟩
    · exact ⟨by simp [hp], waitstb_readTick _ hp⟩
    · exact ⟨by simp [hp], measstb_readTick hc _ hp⟩
    · exact ⟨by simp [hp], starthi_readTick hc _ hp⟩
    · exact ⟨by simp [hp], celllo_readTick hc _ hp⟩
    · exact ⟨by simp [hp], cellhi_readTick _ hp⟩

/-! ### What no tick changes (R37, R230(d)), and the run -/

/-- The construction of the machine, and the model's own `result`, are beyond the reach of a read. -/
theorem readTick_keeps_construction {zw : Bool} {u : State} (hu : ReadTick zw s u) :
    u.cfg = s.cfg ∧ u.profiles = s.profiles ∧ u.result = s.result := by
  cases hu <;> exact ⟨rfl, rfl, rfl⟩

theorem tick_keeps_construction (hc : ConfigOk s.cfg) (i : Input) :
    (tick i s).cfg = s.cfg ∧ (tick i s).profiles = s.profiles ∧ ((tick i s).result = s.result ∨ i.rst = true) := by
  rcases tick_outcomes hc i with ⟨hr, e⟩ | ⟨-, -, e⟩ | ⟨-, -, e⟩ | ⟨-, -, hu⟩
  · rw [e]
    exact ⟨rfl, rfl, .inr hr⟩
  · rw [e]
    exact ⟨rfl, rfl, .inl rfl⟩
  · rw [e, read_eq]
    exact ⟨rfl, rfl, .inl rfl⟩
  · obtain ⟨hcfg, hprofiles, hresult⟩ := readTick_keeps_construction hu
    exact ⟨hcfg, hprofiles, .inl hresult⟩

/-- Settles O55: the step is its tick, which keeps the construction, with one input taken. -/
theorem configurationIsImmutable : Obligations.ConfigurationIsImmutable := by
  intro s t h
  obtain ⟨hc, rfl⟩ := step_next_eq h
  obtain ⟨hcfg, hprofiles, hresult⟩ := tick_keeps_construction hc s.sample
  exact ⟨hcfg, hprofiles, rfl, hresult⟩

/-- Settles O56, by induction on the trace: every tick leaves a configuration of this hardware, so the next step is a
tick again. -/
theorem runIsFoldOfTicks : Obligations.RunIsFoldOfTicks := by
  intro s ins rest hc hins
  induction ins generalizing s with
  | nil =>
    rw [List.nil_append] at hins
    subst hins
    rfl
  | cons i ins ih =>
    have hstep : step s = .next { tick i s with inputs := ins ++ rest } := by
      rw [← step_cons hc, ← List.cons_append, ← hins]
    have hc' : ConfigOk (tick i s).cfg := (tick_keeps_construction hc i).1.symm ▸ hc
    rw [List.length_cons, run_next hstep, ih { tick i s with inputs := ins ++ rest } hc' rfl, ticks_inputs]
    rfl

/-! ### The sequencer (R42) -/

/-- A read that has ended meets R42, if it left `PWR` alone without `POWER_CTRL`. -/
theorem endRead_sequencerInv {u : State} (st : Status) (hnbits : u.nbits ≤ 8)
    (hpwr : u.pwr = true → u.cfg.powerCtrl = true) : SequencerInv (u.endRead st) := by
  refine ⟨by simp, hnbits, by simp [InCells], by simp, by simp [CountWithinBudget], ?_, by simp, by simp⟩
  cases hpower : u.cfg.powerCtrl <;> simp_all

/-- A read that goes on in another phase meets R42. -/
theorem enter_sequencerInv {u : State} {p : Phase} (hp : p ≠ .idle ∧ p ≠ .settle) (hnbits : u.nbits ≤ 8)
    (ht : p = .startHi ∨ p = .cellLo ∨ p = .cellHi → 1 ≤ u.t ∧ u.t ≤ u.cfg.strobeMax - 1)
    (hup : 1 ≤ u.cfg.profile.upNum) (hpwr : u.pwr = true ↔ u.cfg.powerCtrl = true) (hst : u.status = .none) :
    SequencerInv (u.enter p) := by
  refine ⟨fun h => absurd h hp.2, hnbits, ht, ?_, by simp [CountWithinBudget], by simp [hp, hpwr], fun _ => hst,
    fun _ => rfl⟩
  intro (h : p = .cellHi)
  have hpos : 0 < u.cfg.profile.upNum * u.t := Nat.mul_pos hup (ht (.inr (.inr h))).1
  simpa using hpos

theorem resetWith_sequencerInv (c : Cfg) (p : ProfileTable) (ins : List Input) :
    SequencerInv (State.resetWith c p ins) := by
  simp [SequencerInv, InCells, CountWithinBudget, State.resetWith]

/-- In a state of R42 the reset clears `PWR` in both constructions, so it gives the reset state (R230, R41). -/
theorem resetRegs_of_sequencerInv (h : SequencerInv s) :
    resetRegs s = State.resetWith s.cfg s.profiles s.inputs := by
  obtain ⟨-, -, -, -, -, hpwr, -⟩ := h
  have hoff : (if s.cfg.powerCtrl then false else s.pwr) = false := by
    cases hpower : s.cfg.powerCtrl <;> simp_all
  rw [resetRegs_eq, hoff]
  rfl

theorem read_sequencerInv (hidle : s.phase = .idle) (h : SequencerInv s) : SequencerInv (read s) := by
  obtain ⟨-, -, -, -, -, hpwr, -⟩ := h
  have hoff : s.pwr = false := by simpa [hidle] using hpwr
  rw [read_eq]
  cases hpower : s.cfg.powerCtrl <;> simp [SequencerInv, InCells, CountWithinBudget, hpower, hoff]

theorem readTick_keeps_sequencerInv {zw : Bool} {u : State} (hc : ConfigOk s.cfg) (hbusy : s.phase ≠ .idle)
    (h : SequencerInv s) (hu : ReadTick zw s u) : SequencerInv u := by
  have ⟨hsettle, hnbits, ht, _, hbudget, hpwr, hst, hidle⟩ := h
  have ⟨⟨_, _, hup, _⟩, _⟩ := hc
  have hpwr' : s.pwr = true ↔ s.cfg.powerCtrl = true := by simp [hpwr, hbusy]
  cases hu with
  | void => exact h
  | wait hcount hhigh => exact ⟨hsettle, hnbits, ht, hhigh, hcount hbudget, hpwr, hst, fun hp => absurd hp hbusy⟩
  | enter hnext =>
    refine enter_sequencerInv ?_ hnbits ?_ hup hpwr' (hst hbusy)
    · rcases hnext with ⟨-, rfl⟩ | ⟨-, rfl⟩ | ⟨-, rfl⟩ | ⟨-, rfl⟩ <;> decide
    · rcases hnext with ⟨-, rfl⟩ | ⟨-, rfl⟩ | ⟨hp, rfl⟩ | ⟨hp, rfl⟩
      · simp
      · simp
      · exact fun _ => ht (.inl hp)
      · exact fun _ => ht (.inr (.inl hp))
  | strobe hp hcnt =>
    obtain ⟨-, hstrobe, -⟩ := hbudget
    exact enter_sequencerInv (by decide) hnbits (fun _ => ⟨Nat.pos_of_ne_zero hcnt, hstrobe hp⟩) hup hpwr' (hst hbusy)
  | timingFault => exact endRead_sequencerInv _ hnbits hpwr'.1
  | bit hp hn => exact enter_sequencerInv (by decide) hn (fun _ => ht (.inr (.inr hp))) hup hpwr' (hst hbusy)
  | parityFault => exact endRead_sequencerInv _ (Nat.zero_le 8) hpwr'.1
  | firstWord hp =>
    exact enter_sequencerInv (by decide) (Nat.zero_le 8) (fun _ => ht (.inr (.inr hp))) hup hpwr' (hst hbusy)
  | measured => exact endRead_sequencerInv _ (Nat.zero_le 8) hpwr'.1

theorem tick_keeps_sequencerInv (hc : ConfigOk s.cfg) (h : SequencerInv s) (i : Input) : SequencerInv (tick i s) := by
  rcases tick_outcomes hc i with ⟨-, e⟩ | ⟨-, -, e⟩ | ⟨-, hidle, e⟩ | ⟨-, hbusy, hu⟩
  · rw [e, resetRegs_of_sequencerInv h]
    exact resetWith_sequencerInv _ _ _
  · rwa [e]
  · rw [e]
    exact read_sequencerInv hidle h
  · exact readTick_keeps_sequencerInv hc hbusy h hu

/-- Settles O46: the step is its tick with one input taken, and R42 does not speak of the inputs. -/
theorem stepKeepsSequencerInvariant : Obligations.StepKeepsSequencerInvariant := by
  intro s t hs h
  obtain ⟨hc, rfl⟩ := step_next_eq h
  exact tick_keeps_sequencerInv hc hs s.sample

/-! ### The data model (R43) -/

/-- Of a read that ends without a measurement R43 asks that `RAW` and `TEMP_NUM` are 0 and `T` is a strobe's. -/
theorem endRead_dataInv {u : State} {st : Status} (hst : st ≠ .ok ∧ st ≠ .tempOutOfRange)
    (hraw : u.raw = 0 ∧ u.tempNum = 0) (ht : u.t ≤ u.cfg.strobeMax - 1) : DataInv (u.endRead st) := by
  refine ⟨fun _ => hraw, ?_, ?_, ?_, ht, ?_, ?_⟩ <;> simp [hst]

/-- Of a read that goes on, likewise, and the registers of the stages still to come are cleared (R201). -/
theorem enter_dataInv {u : State} {p : Phase} (hst : u.status = .none) (hraw : u.raw = 0 ∧ u.tempNum = 0)
    (ht : u.t ≤ u.cfg.strobeMax - 1) (hbefore : p = .settle ∨ p = .waitStrobe ∨ p = .measStrobe → u.t = 0)
    (hcells : p = .settle ∨ p = .waitStrobe ∨ p = .measStrobe ∨ p = .startHi → u.sh = 0 ∧ u.nbits = 0 ∧ u.nword = 0) :
    DataInv (u.enter p) := by
  refine ⟨fun _ => hraw, ?_, ?_, ?_, ht, hbefore, hcells⟩ <;> simp [Measured, hst]

/-- In the data cells no register has to be clear any more. -/
theorem enter_cell_dataInv {u : State} {p : Phase} (hp : p = .cellLo ∨ p = .cellHi) (hst : u.status = .none)
    (hraw : u.raw = 0 ∧ u.tempNum = 0) (ht : u.t ≤ u.cfg.strobeMax - 1) : DataInv (u.enter p) :=
  enter_dataInv hst hraw ht (by rcases hp with rfl | rfl <;> simp) (by rcases hp with rfl | rfl <;> simp)

/-- The end of a read with a measurement meets R43, in range or not. -/
theorem measured_dataInv {u : State} (hraw : u.raw = joinBytes u.byteHi (dataByte u.sh))
    (hparity : parityOk u.sh = true) (htemp : u.tempNum = tempOf u.cfg.profile u.raw) (hword : u.nword = 1)
    (hnbits : u.nbits = 0) (ht : u.t ≤ u.cfg.strobeMax - 1) :
    DataInv (u.endRead (if TempInRange u.cfg.profile u.tempNum then .ok else .tempOutOfRange)) := by
  refine ⟨?_, fun _ => ⟨hraw, hparity, htemp, hword, hnbits⟩, ?_, ?_, ht, by simp, by simp⟩
  · intro hnot
    by_cases hr : TempInRange u.cfg.profile u.tempNum <;> simp [Measured, hr] at hnot
  · intro hok
    by_contra hr
    simp [show ¬TempInRange u.cfg.profile u.tempNum from hr] at hok
  · intro hout hr
    simp [show TempInRange u.cfg.profile u.tempNum from hr] at hout

theorem resetWith_dataInv (c : Cfg) (p : ProfileTable) (ins : List Input) : DataInv (State.resetWith c p ins) := by
  simp [DataInv, Measured, State.resetWith]

theorem read_dataInv (s : State) : DataInv (read s) := by
  simp [DataInv, Measured, read_eq]

theorem readTick_keeps_dataInv {zw : Bool} {u : State} (hbusy : s.phase ≠ .idle) (hs : SequencerInv s)
    (h : DataInv s) (hu : ReadTick zw s u) : DataInv u := by
  have ⟨_, _, _, _, ⟨_, hstrobe, _⟩, _, hst, _⟩ := hs
  have ⟨hnone, _, _, _, ht, ht0, hsh0⟩ := h
  have hnostatus : s.status = .none := hst hbusy
  have hraw : s.raw = 0 ∧ s.tempNum = 0 := hnone (by simp [Measured, hnostatus])
  cases hu with
  | void => exact h
  | wait => exact h
  | enter hnext =>
    rcases hnext with ⟨hp, rfl⟩ | ⟨hp, rfl⟩ | ⟨-, rfl⟩ | ⟨-, rfl⟩
    · exact enter_dataInv hnostatus hraw ht (fun _ => ht0 (.inl hp)) fun _ => hsh0 (.inl hp)
    · exact enter_dataInv hnostatus hraw ht (fun _ => ht0 (.inr (.inl hp))) fun _ => hsh0 (.inr (.inl hp))
    · exact enter_cell_dataInv (.inl rfl) hnostatus hraw ht
    · exact enter_cell_dataInv (.inr rfl) hnostatus hraw ht
  | strobe hp => exact enter_dataInv hnostatus hraw (hstrobe hp) (by simp) fun _ => hsh0 (.inr (.inr (.inl hp)))
  | timingFault hfault => exact endRead_dataInv (by rcases hfault with rfl | rfl | rfl <;> decide) hraw ht
  | bit => exact enter_cell_dataInv (.inl rfl) hnostatus hraw ht
  | parityFault => exact endRead_dataInv (by decide) hraw ht
  | firstWord => exact enter_cell_dataInv (.inl rfl) hnostatus hraw ht
  | measured _ _ _ hparity hnword => exact measured_dataInv rfl hparity rfl hnword rfl ht

theorem tick_keeps_dataInv (hc : ConfigOk s.cfg) (hs : SequencerInv s) (h : DataInv s) (i : Input) :
    DataInv (tick i s) := by
  rcases tick_outcomes hc i with ⟨-, e⟩ | ⟨-, -, e⟩ | ⟨-, -, e⟩ | ⟨-, hbusy, hu⟩
  · rw [e, resetRegs_of_sequencerInv hs]
    exact resetWith_dataInv _ _ _
  · rwa [e]
  · rw [e]
    exact read_dataInv s
  · exact readTick_keeps_dataInv hbusy hs h hu

/-- Settles O47: as for R42, by the tick. -/
theorem stepKeepsDataInvariant : Obligations.StepKeepsDataInvariant := by
  intro s t hs hd h
  obtain ⟨hc, rfl⟩ := step_next_eq h
  exact tick_keeps_dataInv hc hs hd s.sample

/-- Settles O45: the reset state meets both, whatever the configuration. -/
theorem resetMeetsInvariants : Obligations.ResetMeetsInvariants :=
  fun c p ins => ⟨resetWith_sequencerInv c p ins, resetWith_dataInv c p ins⟩

/-! ### The phase table (R31) -/

theorem settle_transition (hs : SequencerInv s) (hp : s.phase = .settle) :
    ((settle s).phase, (settle s).status) =
      (if s.cnt < s.cfg.settleTicks - 1 then .settle else .waitStrobe, .none) := by
  obtain ⟨hpower, -, -, -, ⟨-, -, -, hbudget⟩, -, hst, -⟩ := hs
  have hcnt := hbudget hp
  have hnone := hst (by simp [hp])
  rcases settle_cases s with ⟨hoff, -⟩ | ⟨-, hc, e⟩ | ⟨-, hc, e⟩
  · simp [hpower hp] at hoff
  · simp [e, hc, hnone]
  · simp [e, hnone, hp, show s.cnt < s.cfg.settleTicks - 1 by omega]

theorem waitstb_transition (zw : Bool) (hs : SequencerInv s) (hp : s.phase = .waitStrobe) :
    ((waitstb zw s).phase, (waitstb zw s).status) =
      if zw = false then (.measStrobe, .none)
      else if s.cnt < s.cfg.strobeWaitMax - 1 then (.waitStrobe, .none) else (.idle, .timeout) := by
  obtain ⟨-, -, -, -, ⟨hbudget, -⟩, -, hst, -⟩ := hs
  have hcnt := hbudget hp
  have hnone := hst (by simp [hp])
  rcases waitstb_cases zw s with ⟨rfl, e⟩ | ⟨rfl, hc, e⟩ | ⟨rfl, hc, e⟩
  · simp [e, hnone]
  · simp [e, hc]
  · simp [e, hnone, hp, show s.cnt < s.cfg.strobeWaitMax - 1 by omega]

theorem measstb_transition (hc : ConfigOk s.cfg) (zw : Bool) (hs : SequencerInv s) (hp : s.phase = .measStrobe) :
    ((measstb zw s).phase, (measstb zw s).status) =
      if zw = false then
        if s.cnt + 1 < s.cfg.strobeMax then (.measStrobe, .none) else (.idle, .timeout)
      else if s.cnt = 0 then (.idle, .invalidStrobeLength) else (.startHi, .none) := by
  obtain ⟨-, -, -, ⟨-, hmax, -⟩, -⟩ := hc
  obtain ⟨-, -, -, -, ⟨-, hbudget, -⟩, -, hst, -⟩ := hs
  have hcnt := hbudget hp
  have hnone := hst (by simp [hp])
  rcases measstb_cases zw s with ⟨rfl, h, e⟩ | ⟨rfl, h, e⟩ | ⟨rfl, h, e⟩ | ⟨rfl, h, e⟩
  · simp [e, h]
  · simp [e, hnone, hp, show s.cnt + 1 < s.cfg.strobeMax by omega]
  · simp [e, h]
  · simp [e, h, hnone]

theorem starthi_transition (hc : ConfigOk s.cfg) (zw : Bool) (hs : SequencerInv s) (hp : s.phase = .startHi) :
    ((starthi zw s).phase, (starthi zw s).status) =
      if zw = false then (.cellLo, .none)
      else if s.cnt + 1 < s.cfg.edgeWaitMax then (.startHi, .none) else (.idle, .timeout) := by
  obtain ⟨-, -, -, ⟨-, -, hmax, -⟩, -⟩ := hc
  obtain ⟨-, -, -, -, ⟨-, -, hbudget, -⟩, -, hst, -⟩ := hs
  have hcnt := hbudget (.inl hp)
  have hnone := hst (by simp [hp])
  rcases starthi_cases zw s with ⟨rfl, e⟩ | ⟨rfl, h, e⟩ | ⟨rfl, h, e⟩
  · simp [e, hnone]
  · simp [e, h]
  · simp [e, hnone, hp, show s.cnt + 1 < s.cfg.edgeWaitMax by omega]

theorem celllo_transition (hc : ConfigOk s.cfg) (zw : Bool) (hs : SequencerInv s) (hp : s.phase = .cellLo) :
    ((celllo zw s).phase, (celllo zw s).status) =
      if zw = true then (.cellHi, .none)
      else if s.cnt + 1 < s.cfg.edgeWaitMax then (.cellLo, .none) else (.idle, .timeout) := by
  obtain ⟨-, -, -, ⟨-, -, hmax, -⟩, -⟩ := hc
  obtain ⟨-, -, -, -, ⟨-, -, hbudget, -⟩, -, hst, -⟩ := hs
  have hcnt := hbudget (.inr hp)
  have hnone := hst (by simp [hp])
  rcases celllo_cases zw s with ⟨rfl, e⟩ | ⟨rfl, h, e⟩ | ⟨rfl, h, e⟩
  · simp [e, hnone]
  · simp [e, h]
  · simp [e, hnone, hp, show s.cnt + 1 < s.cfg.edgeWaitMax by omega]

/-- Where the bit of a cell leads. -/
theorem shift_transition (b : Bool) (hst : s.status = .none) :
    ((shift b s).phase, (shift b s).status) =
      if s.nbits < 8 then (.cellLo, .none)
      else if parityOk (shiftIn s.sh b) = false then (.idle, .parityError)
      else if s.nword = 0 then (.cellLo, .none)
      else if TempInRange s.cfg.profile (tempOf s.cfg.profile (joinBytes s.byteHi (dataByte (shiftIn s.sh b)))) then
        (.idle, .ok)
      else (.idle, .tempOutOfRange) := by
  rcases shift_outcomes b s with ⟨hn, e⟩ | ⟨hn, hpar, e⟩ | ⟨hn, hpar, hw, e⟩ | ⟨hn, hpar, hw, e⟩
  · simp [e, hn, hst]
  · simp [e, hn, hpar]
  · simp [e, hpar, hw, hst]
  · simp only [e, hpar, hw, if_neg (Nat.not_lt.2 hn), endRead_phase, endRead_status]
    split_ifs <;> simp_all

theorem cellhi_transition (zw : Bool) (hs : SequencerInv s) (hp : s.phase = .cellHi) :
    ((cellhi zw s).phase, (cellhi zw s).status) =
      if zw = true then
        if (s.cnt + 1) * s.cfg.profile.upDen < s.cfg.profile.upNum * s.t then (.cellHi, .none)
        else (.idle, .invalidBitTiming)
      else ((shift (classify s.cfg.profile s.cnt s.t == .one) s).phase,
        (shift (classify s.cfg.profile s.cnt s.t == .one) s).status) := by
  obtain ⟨-, -, -, hvalid, -, -, hst, -⟩ := hs
  have hnone := hst (by simp [hp])
  rcases cellhi_cases zw s with ⟨rfl, h, e⟩ | ⟨rfl, h, e⟩ | ⟨rfl, h, -⟩ | ⟨rfl, -, e⟩
  · simp [e, Nat.not_lt.2 h]
  · simp [e, h, hp, hnone]
  · exact absurd (hvalid hp) (Nat.not_lt.2 (classify_eq_invalid_iff.1 h))
  · simp [e]

/-- Settles O49, row by row. -/
theorem phaseTransitionTable : Obligations.PhaseTransitionTable := by
  intro s hc hs
  refine ⟨_, step_eq hc, ?_⟩
  have ⟨_, _, _, _, _, _, hst, _⟩ := hs
  show ((tick s.sample s).phase, (tick s.sample s).status) = _
  cases hr : s.sample.rst with
  | true => rw [tick_rst hr]; rfl
  | false =>
    rw [if_neg (by simp)]
    cases hp : s.phase with
    | idle =>
      rw [tick_idle hr hp]
      cases s.sample.start with
      | true => rw [if_pos rfl, read_eq]; rfl
      | false => simp [hp]
    | settle => rw [tick_settle hr hp]; exact settle_transition hs hp
    | waitStrobe => rw [tick_waitStrobe hr hp]; exact waitstb_transition _ hs hp
    | measStrobe => rw [tick_measStrobe hr hp]; exact measstb_transition hc _ hs hp
    | startHi => rw [tick_startHi hr hp]; exact starthi_transition hc _ hs hp
    | cellLo => rw [tick_cellLo hr hp]; exact celllo_transition hc _ hs hp
    | cellHi =>
      rw [tick_cellHi hr hp, cellhi_transition _ hs hp, shift_transition _ (hst (by simp [hp]))]

/-! ### What a read records (R43, R151, R172) -/

/-- A read records OK by a good second word whose temperature is in range, and by nothing else. -/
theorem readTick_ok {zw : Bool} {u : State} (hs : SequencerInv s) (hu : ReadTick zw s u) (hold : s.status ≠ .ok)
    (hok : u.status = .ok) :
    s.phase = .cellHi ∧ zw = false ∧ s.nbits = 8 ∧ s.nword = 1 ∧ parityOk u.sh = true ∧
      u.raw = joinBytes s.byteHi (dataByte u.sh) ∧ u.tempNum = tempOf s.cfg.profile u.raw ∧
      TempInRange s.cfg.profile u.tempNum ∧ u.phase = .idle := by
  obtain ⟨-, hnbits, -⟩ := hs
  cases hu with
  | void | wait | enter | strobe | bit | firstWord => exact absurd hok hold
  | timingFault hfault => rcases hfault with rfl | rfl | rfl <;> cases hok
  | parityFault => cases hok
  | measured hp hzw hn hparity hnword =>
    rw [endRead_status] at hok
    split_ifs at hok with hrange
    exact ⟨hp, hzw, by omega, hnword, hparity, rfl, rfl, hrange, rfl⟩

/-- `NWORD` becomes 1 by a good first word, and by nothing else. -/
theorem readTick_nword {zw : Bool} {u : State} (hs : SequencerInv s) (hu : ReadTick zw s u) (hold : s.nword = 0)
    (hnew : u.nword = 1) :
    s.phase = .cellHi ∧ s.nbits = 8 ∧ parityOk u.sh = true ∧ u.byteHi = dataByte u.sh := by
  obtain ⟨-, hnbits, -⟩ := hs
  have hkept : s.nword ≠ 1 := by simp [hold]
  cases hu with
  | void | wait | enter | strobe | timingFault | bit | parityFault | measured => exact absurd hnew hkept
  | firstWord hp hn hparity => exact ⟨hp, by omega, hparity, rfl⟩

/-- Settles O51: RESET and READ record NONE and clear `NWORD`, an idle tick changes nothing, and a tick of a read is one
of `ReadTick`. -/
theorem okOnlyAfterWholeFrame : Obligations.OkOnlyAfterWholeFrame := by
  intro s t hs h
  obtain ⟨hc, rfl⟩ := step_next_eq h
  have hcfg : (tick s.sample s).cfg = s.cfg := (tick_keeps_construction hc s.sample).1
  rcases tick_outcomes hc s.sample with ⟨-, e⟩ | ⟨-, -, e⟩ | ⟨-, -, e⟩ | ⟨hr, -, hu⟩
  · rw [e, resetRegs_eq]
    exact ⟨nofun, nofun⟩
  · rw [e]
    exact ⟨fun hok hold => absurd hok hold, fun hold hnew => by simp [hold] at hnew⟩
  · rw [e, read_eq]
    exact ⟨nofun, nofun⟩
  · refine ⟨fun hok hold => ?_, readTick_nword (u := tick s.sample s) hs hu⟩
    obtain ⟨hp, hzw, hnbits, hnword, hparity, hraw, htemp, hrange, hidle⟩ := readTick_ok hs hu hold hok
    exact ⟨hp, hr, hzw, hnbits, hnword, hparity, hraw, htemp, hrange, hidle⟩

/-! ### The ports (R33 to R35, R61) -/

theorem busy_iff : s.busy = true ↔ s.phase ≠ .idle := by simp [State.busy]

theorem done_iff : s.done = true ↔ s.phase = .idle ∧ s.status ≠ .none := by simp [State.done]

theorem valid_iff : s.valid = true ↔ s.phase = .idle ∧ s.status = .ok := by simp [State.valid]

theorem status_code_ne_seven (st : Status) : st.code ≠ 7 := by cases st <;> decide

/-- Settles O32, port by port. -/
theorem portsFollowRegisters : Obligations.PortsFollowRegisters := by
  intro s
  refine ⟨busy_iff, done_iff, valid_iff, rfl, rfl, ?_, ?_, status_code_ne_seven s.status⟩
  · show (s.cfg.powerCtrl && s.pwr) = _
    cases s.cfg.powerCtrl <;> rfl
  · show s.status.code = _
    cases s.status <;> rfl

/-- In a state of R42 the supply is on exactly while busy (R42(f), R193(b)). -/
theorem vddEn_of_sequencerInv (h : SequencerInv s) : s.vddEn = (s.cfg.powerCtrl && s.busy) := by
  obtain ⟨-, -, -, -, -, hpwr, -⟩ := h
  rw [Bool.eq_iff_iff, Bool.and_eq_true, busy_iff, ← hpwr]
  simp only [State.vddEn, Bool.and_eq_true, hpwr]
  tauto

/-- A read ends with a status (R33). -/
theorem readTick_ends_with_status {zw : Bool} {u : State} (hbusy : s.phase ≠ .idle) (hu : ReadTick zw s u)
    (hidle : u.phase = .idle) : u.status ≠ .none := by
  cases hu with
  | void | wait => exact absurd hidle hbusy
  | enter hnext => rcases hnext with ⟨-, rfl⟩ | ⟨-, rfl⟩ | ⟨-, rfl⟩ | ⟨-, rfl⟩ <;> cases hidle
  | strobe | bit | firstWord => cases hidle
  | timingFault hfault => rcases hfault with rfl | rfl | rfl <;> nofun
  | parityFault => nofun
  | measured =>
    rw [endRead_status]
    split_ifs <;> decide

/-- Settles O52: the next state meets R42, which gives the supply and that a busy machine has no status. -/
theorem portsTellProgress : Obligations.PortsTellProgress := by
  intro s t hs h
  have hinv : SequencerInv t := stepKeepsSequencerInvariant s t hs h
  refine ⟨fun hbusy hrst => ?_, vddEn_of_sequencerInv hinv⟩
  obtain ⟨-, -, -, -, -, -, hnostatus, -⟩ := hinv
  have hended : t.phase = .idle → t.status ≠ .none := by
    obtain ⟨hc, rfl⟩ := step_next_eq h
    rcases tick_outcomes hc s.sample with ⟨hr, -⟩ | ⟨-, hp, -⟩ | ⟨-, hp, -⟩ | ⟨-, -, hu⟩
    · simp [hrst] at hr
    · exact absurd hp hbusy
    · exact absurd hp hbusy
    · exact readTick_ends_with_status (u := tick s.sample s) hbusy hu
  rw [busy_iff, done_iff]
  exact ⟨⟨hnostatus, fun hnone hp => hended hp hnone⟩,
    ⟨fun ⟨_, hst⟩ => hst, fun hst => ⟨not_imp_comm.1 hnostatus hst, hst⟩⟩⟩

/-! ### The STATUS rows (log 6) -/

/-- Settles O27: each row is the end of a read with its code, but for NONE, the write alone. -/
theorem statusRowsRecordCodes : Obligations.StatusRowsRecordCodes := by
  intro s
  have hrow (st : Status) : Host.Outcome.next (φ := Fault) (ρ := Refusal) (s.endRead st) =
      .next { s with status := st, phase := .idle, cnt := 0, pwr := if s.cfg.powerCtrl then false else s.pwr } :=
    congrArg _ (endRead_eq s st)
  exact ⟨rfl, hrow .ok, hrow .timeout, hrow .invalidStrobeLength, hrow .invalidBitTiming, hrow .parityError,
    hrow .tempOutOfRange⟩

end Sys2Proof.Machine
end

section
/-! PROOFS. The idle machine: no idle tick changes a register, so the results hold (R69, R111, R208, R237). -/

namespace Sys2Proof.Machine

/-- The next input, wherever it comes from, neither resets nor starts, if no input of the trace's first `n + 1` does:
beyond the end of the trace the tick is idle (R95). -/
theorem sample_idle {n : Nat} {s : State} (h : ∀ i ∈ s.inputs.take (n + 1), i.rst = false ∧ i.start = false) :
    s.sample.rst = false ∧ s.sample.start = false := by
  unfold State.sample
  cases hins : s.inputs with
  | nil => exact ⟨rfl, rfl⟩
  | cons i rest => exact h i (by simp [hins])

/-- An idle step takes its input and changes nothing else (R111). -/
theorem step_idle {s : State} (hc : ConfigOk s.cfg) (hp : s.phase = .idle) (hrst : s.sample.rst = false)
    (hstart : s.sample.start = false) : step s = .next { s with inputs := s.inputs.tail } := by
  rw [step_eq hc, tick_idle hrst hp, hstart]
  rfl

/-- Settles O44, by induction on the number of ticks: the first is idle and leaves an idle machine. -/
theorem resultsHeldWhileIdle : Obligations.ResultsHeldWhileIdle := by
  intro n s hc hp hidle
  induction n generalizing s with
  | zero => rfl
  | succ n ih =>
    obtain ⟨hrst, hstart⟩ := sample_idle hidle
    have hrest : ∀ i ∈ s.inputs.tail.take n, i.rst = false ∧ i.start = false := by
      intro i hi
      refine hidle i (List.mem_of_mem_tail ?_)
      rwa [← List.drop_one, List.drop_take, Nat.add_sub_cancel, List.drop_one]
    rw [run_next (step_idle hc hp hrst hstart), ih { s with inputs := s.inputs.tail } hc hp hrest, List.drop_tail]

end Sys2Proof.Machine
end

section
/-! PROOFS. The encoding: the symbols of a data cell (R82), the samples of a cell and its two runs (R80, R96), the
selector word (R92), the two round trips of decoder and encoder, the raw value (R85), the MODEL rows and the reserved
codes. -/

namespace Sys2Proof.Machine

/-! ### The symbols of a data cell (R82, R134) -/

/-- R9(b) as it is used: a duration below the threshold is below the upper bound. -/
theorem ratioLt_up_of_ratioLt_thr {p : Profile} {hi t : Nat} (hpos : RatiosPositive p) (hb : ThresholdBelowUpper p)
    (h : RatioLt hi p.thrNum p.thrDen t) : RatioLt hi p.upNum p.upDen t := by
  obtain ⟨-, hthrDen, -, hupDen, -⟩ := hpos
  refine Nat.lt_of_mul_lt_mul_right (a := p.thrDen) ?_
  calc hi * p.upDen * p.thrDen = hi * p.thrDen * p.upDen := Nat.mul_right_comm ..
    _ < p.thrNum * t * p.upDen := Nat.mul_lt_mul_of_pos_right h hupDen
    _ = p.thrNum * p.upDen * t := Nat.mul_right_comm ..
    _ ≤ p.upNum * p.thrDen * t := Nat.mul_le_mul_right t (Nat.le_of_lt hb)
    _ = p.upNum * t * p.thrDen := Nat.mul_right_comm ..

/-- For a configuration of this hardware the condition of a 0 needs no upper bound beside it. -/
theorem classify_eq_zero_iff_ratioLt {p : Profile} {hi t : Nat} (hpos : RatiosPositive p)
    (hb : ThresholdBelowUpper p) : classify p hi t = .zero ↔ RatioLt hi p.thrNum p.thrDen t := by
  rw [classify_eq_zero_iff]
  exact ⟨And.right, fun h => ⟨ratioLt_up_of_ratioLt_thr hpos hb h, h⟩⟩

/-- Settles O14: the conditions are those of the classifier, and a duration of 0 is below every threshold. -/
theorem symbolsPartitionDurations : Obligations.SymbolsPartitionDurations := by
  intro p hi t hpos hb ht
  have ⟨hthrNum, _, _, hupDen, _⟩ := hpos
  have hzero : RatioLt 0 p.thrNum p.thrDen t := by
    rw [RatioLt, Nat.zero_mul]
    exact Nat.mul_pos hthrNum ht
  refine ⟨classify_eq_zero_iff_ratioLt hpos hb, ?_, classify_eq_invalid_iff,
    (classify_eq_zero_iff_ratioLt hpos hb).2 hzero, ?_⟩
  · rw [classify_eq_one_iff]
    exact And.comm
  · rw [classify_eq_invalid_iff, hlim_le_iff hupDen]

/-! ### The samples of a cell and its two runs (R80, R96) -/

theorem runLength_cons_self (b : Bool) (zs : List Bool) : runLength b (b :: zs) = runLength b zs + 1 := by
  simp [runLength]

theorem runLength_cons_of_ne {b z : Bool} (h : z ≠ b) (zs : List Bool) : runLength b (z :: zs) = 0 := by
  simp [runLength, h]

theorem runLength_replicate_append (b : Bool) (n : Nat) (zs : List Bool) :
    runLength b (List.replicate n b ++ zs) = n + runLength b zs := by
  induction n with
  | zero => simp
  | succ n ih => rw [List.replicate_succ, List.cons_append, runLength_cons_self, ih]; omega

/-- A list begins with its leading run. -/
theorem replicate_runLength_append_drop (b : Bool) (zs : List Bool) :
    List.replicate (runLength b zs) b ++ zs.drop (runLength b zs) = zs := by
  induction zs with
  | nil => rfl
  | cons z zs ih =>
    by_cases h : z = b
    · subst h
      rw [runLength_cons_self, List.replicate_succ, List.drop_succ_cons, List.cons_append, ih]
    · rw [runLength_cons_of_ne h]
      rfl

theorem cellRuns_cellSamples (lo hi : Nat) : cellRuns (cellSamples lo hi) = some (lo + 1, hi + 1) := by
  have hlo : runLength false (cellSamples lo hi) = lo + 1 := by
    rw [cellSamples, runLength_replicate_append, List.replicate_succ, runLength_cons_of_ne (by decide)]
  have hdrop : (cellSamples lo hi).drop (lo + 1) = List.replicate (hi + 1) true ++ [] := by
    rw [cellSamples, List.drop_left' List.length_replicate, List.append_nil]
  have hhi : runLength true (List.replicate (hi + 1) true ++ []) = hi + 1 := runLength_replicate_append ..
  have hlen : (cellSamples lo hi).length = lo + 1 + (hi + 1) := by simp [cellSamples]
  simp only [cellRuns, hlo, hdrop, hhi, hlen]
  exact if_pos ⟨by omega, by omega, trivial⟩

/-- Samples with the two runs of a cell are the samples of that cell, and nothing else (R80). -/
theorem eq_cellSamples_of_cellRuns {zs : List Bool} {r : Nat × Nat} (h : cellRuns zs = some r) :
    ∃ lo hi, r = (lo + 1, hi + 1) ∧ zs = cellSamples lo hi := by
  simp only [cellRuns] at h
  split at h
  next hruns =>
    obtain ⟨hlo, hhi, hlen⟩ := hruns
    refine ⟨runLength false zs - 1, runLength true (zs.drop (runLength false zs)) - 1, ?_, ?_⟩
    · rw [Nat.sub_add_cancel hlo, Nat.sub_add_cancel hhi, Option.some.inj h]
    · have hrest : (zs.drop (runLength false zs)).drop (runLength true (zs.drop (runLength false zs))) = [] := by
        rw [List.drop_eq_nil_iff, List.length_drop]
        omega
      have hhigh := replicate_runLength_append_drop true (zs.drop (runLength false zs))
      rw [hrest, List.append_nil] at hhigh
      rw [cellSamples, Nat.sub_add_cancel hlo, Nat.sub_add_cancel hhi, hhigh, replicate_runLength_append_drop]
  next => cases h

/-! ### The cell in its context (R81, R82, R84) -/

theorem dataCellIs_iff {c : Cfg} {strobe : Option Nat} {y : Symbol} {lo hi : Nat} :
    dataCellIs c strobe y lo hi = true ↔
      ∃ t, strobe = some t ∧ (1 ≤ t ∧ lo + 1 ≤ c.edgeWaitMax) ∧ classify c.profile hi t = y := by
  cases strobe <;> simp [dataCellIs]

theorem wf_symbolRow (x : LineContext) (y : Symbol) (lo hi : Nat) :
    (symbolRow y lo hi).wf x = dataCellIs x.cfg x.strobe y lo hi := by
  cases y <;> rfl

theorem encode_symbolRow (y : Symbol) (lo hi : Nat) :
    encode (symbolRow y lo hi) = some (.cell (cellSamples lo hi)) := by
  cases y <;> rfl

theorem decodeCell_before_strobe {x : LineContext} (hx : x.strobe = none) (lo hi : Nat) :
    decodeCell x (cellSamples lo hi) =
      if startCellOk x.cfg lo hi then .ok (.start lo hi) else .error .badStartCell := by
  simp [decodeCell, cellRuns_cellSamples, hx]

theorem decodeCell_after_strobe {x : LineContext} {t : Nat} (hx : x.strobe = some t) (lo hi : Nat) :
    decodeCell x (cellSamples lo hi) =
      if 1 ≤ t ∧ lo + 1 ≤ x.cfg.edgeWaitMax then .ok (symbolRow (classify x.cfg.profile hi t) lo hi)
      else .error .badDataCell := by
  simp [decodeCell, cellRuns_cellSamples, hx]

theorem decodeCell_start {x : LineContext} {t g : Nat} (h : (Instr.start t g).wf x = true) :
    decodeCell x (cellSamples t g) = .ok (.start t g) := by
  obtain ⟨hx, hok⟩ := Bool.and_eq_true_iff.1 h
  rw [decodeCell_before_strobe (eq_of_beq hx), if_pos hok]

theorem decodeCell_symbolRow {x : LineContext} {y : Symbol} {lo hi : Nat} (h : (symbolRow y lo hi).wf x = true) :
    decodeCell x (cellSamples lo hi) = .ok (symbolRow y lo hi) := by
  obtain ⟨t, hx, hbudget, rfl⟩ := dataCellIs_iff.1 (wf_symbolRow x y lo hi ▸ h)
  rw [decodeCell_after_strobe hx, if_pos hbudget]

/-- What samples decode to is a well-formed cell with those samples. -/
theorem decodeCell_sound {x : LineContext} {zs : List Bool} {i : Instr} (h : decodeCell x zs = .ok i) :
    i.wf x = true ∧ encode i = some (.cell zs) := by
  cases hruns : cellRuns zs with
  | none => simp [decodeCell, hruns] at h
  | some r =>
    obtain ⟨lo, hi, -, rfl⟩ := eq_cellSamples_of_cellRuns hruns
    cases hx : x.strobe with
    | none =>
      rw [decodeCell_before_strobe hx] at h
      split at h
      next hok =>
        cases h
        exact ⟨Bool.and_eq_true_iff.2 ⟨beq_iff_eq.2 hx, hok⟩, rfl⟩
      next => cases h
    | some t =>
      rw [decodeCell_after_strobe hx] at h
      split at h
      next hbudget =>
        cases h
        exact ⟨wf_symbolRow .. ▸ dataCellIs_iff.2 ⟨t, hx, hbudget, rfl⟩, encode_symbolRow ..⟩
      next => cases h

/-! ### The selector word and the three-bit codes (R87 to R89, R92) -/

/-- A selector word is its four fields. -/
theorem packSel_fields (w : Sel) : packSel (w.getLsbD 5) (selPhase w) (selStart w) (selZw w) = w := by
  revert w; decide

theorem eq_code_of_ofCode {c : Code3} {p : Phase} (h : Phase.ofCode c = some p) : c = p.code := by
  unfold Phase.ofCode at h
  have hcode := List.find?_some h
  exact (eq_of_beq hcode).symm

theorem eq_seven_of_ofCode {c : Code3} (h : Phase.ofCode c = none) : c = 7 := by
  revert c; decide

/-- Every three-bit code but 7 is the code of a phase (R88). -/
theorem eq_phase_code_or_eq_seven (c : Code3) : (∃ p : Phase, c = p.code) ∨ c = 7 := by
  cases h : Phase.ofCode c with
  | some p => exact .inl ⟨p, eq_code_of_ofCode h⟩
  | none => exact .inr (eq_seven_of_ofCode h)

theorem decodeSel_packSel_unused (st zw : Bool) : decodeSel (packSel false 7 st zw) = .error .unusedPhase := by
  cases st <;> cases zw <;> rfl

/-- The operation that a selector word selects has this word. -/
theorem encode_of_decodeSel {w : Sel} {i : Instr} (h : decodeSel w = .ok i) : encode i = some (.sel w) := by
  rw [← packSel_fields w] at h ⊢
  generalize selPhase w = c, selStart w = st, selZw w = zw at h ⊢
  cases hr : w.getLsbD 5 with
  | true =>
    rw [hr, decodeSel_packSel_reset] at h
    cases h; rfl
  | false =>
    rw [hr] at h
    rcases eq_phase_code_or_eq_seven c with ⟨p, rfl⟩ | rfl
    · cases p with
      | idle => rw [decodeSel_packSel_idle] at h; cases h; cases st <;> rfl
      | settle => rw [decodeSel_packSel_settle] at h; cases h; rfl
      | waitStrobe => rw [decodeSel_packSel_waitStrobe] at h; cases h; rfl
      | measStrobe => rw [decodeSel_packSel_measStrobe] at h; cases h; rfl
      | startHi => rw [decodeSel_packSel_startHi] at h; cases h; rfl
      | cellLo => rw [decodeSel_packSel_cellLo] at h; cases h; rfl
      | cellHi => rw [decodeSel_packSel_cellHi] at h; cases h; rfl
    · rw [decodeSel_packSel_unused] at h; cases h

theorem encode_decodeStatus (c : Code3) : encode (decodeStatus c) = some (.status c) := by
  revert c; decide

theorem encode_decodePhase (c : Code3) : encode (decodePhase c) = some (.phase c) := by
  revert c; decide

theorem encode_decodeModel (c : Code3) : encode (decodeModel c) = some (.model c) := by
  revert c; decide

/-! ### The round trips (R80 to R92) -/

/-- Of the operations that have a code, the cells alone are well formed or not in their context. -/
theorem wf_of_encode {x : LineContext} {i : Instr} {c : Code} (h : encode i = some c) (hc : ∀ zs, c ≠ .cell zs) :
    i.wf x = true := by
  cases i with
  | start | sym0 | sym1 | symx => exact absurd (Option.some.inj h).symm (hc _)
  | rangechk => cases h
  | _ => rfl

/-- Settles O58, format by format. -/
theorem encodeDecodeRoundTrip : Obligations.EncodeDecodeRoundTrip := by
  intro x c i h
  cases c with
  | cell zs => exact decodeCell_sound h
  | sel w =>
    have he := encode_of_decodeSel h
    exact ⟨wf_of_encode he nofun, he⟩
  | word w => cases h; exact ⟨rfl, rfl⟩
  | frame bits => cases h; exact ⟨rfl, rfl⟩
  | value r => cases h; exact ⟨rfl, rfl⟩
  | status c => cases h; exact ⟨wf_of_encode (encode_decodeStatus c) nofun, encode_decodeStatus c⟩
  | phase c => cases h; exact ⟨wf_of_encode (encode_decodePhase c) nofun, encode_decodePhase c⟩
  | model c => cases h; exact ⟨wf_of_encode (encode_decodeModel c) nofun, encode_decodeModel c⟩

/-- Settles O57, row by row: a tick operation by the row its selector word selects, a cell by its runs and its context;
the sub-operations have no code. -/
theorem decodeEncodeRoundTrip : Obligations.DecodeEncodeRoundTrip := by
  intro x i c hwf h
  cases i with
  | reset p st zw => cases h; exact decodeSel_packSel_reset p st zw
  | nop zw => cases h; exact decodeSel_packSel_idle false zw
  | read zw => cases h; exact decodeSel_packSel_idle true zw
  | settle st zw => cases h; exact decodeSel_packSel_settle st zw
  | waitstb st zw => cases h; exact decodeSel_packSel_waitStrobe st zw
  | measstb st zw => cases h; exact decodeSel_packSel_measStrobe st zw
  | starthi st zw => cases h; exact decodeSel_packSel_startHi st zw
  | celllo st zw => cases h; exact decodeSel_packSel_cellLo st zw
  | cellhi st zw => cases h; exact decodeSel_packSel_cellHi st zw
  | start t g => cases h; exact decodeCell_start hwf
  | sym0 lo hi => cases h; exact decodeCell_symbolRow (y := .zero) hwf
  | sym1 lo hi => cases h; exact decodeCell_symbolRow (y := .one) hwf
  | symx lo hi => cases h; exact decodeCell_symbolRow (y := .invalid) hwf
  | pwron | pwroff | classify | shift | wordchk | parityOk | frame | convert | rangechk | finish | abort => cases h
  | _ => cases h; rfl

/-- Settles O59: the words are those of the rows. -/
theorem writtenWordsDecode : Obligations.WrittenWordsDecode := by
  intro x
  exact ⟨decodeSel_packSel_reset 0b011 true false, decodeSel_packSel_idle false true,
    decodeSel_packSel_idle true false, decodeSel_packSel_settle true false, decodeSel_packSel_waitStrobe false true,
    decodeSel_packSel_cellHi true true, decodeSel_packSel_unused false false, rfl, rfl, rfl, rfl⟩

/-! ### The raw value (R85) -/

/-- Settles O20: the bytes of `{h, l}` are its upper and its lower half. -/
theorem rawRowKeepsAllBits : Obligations.RawRowKeepsAllBits := by
  intro h l s
  exact ⟨rfl, BitVec.extractLsb'_append_eq_left, BitVec.extractLsb'_append_eq_right⟩

/-! ### The MODEL rows and the reserved codes (R87 to R89) -/

/-- Between reads a model with constants that result in a configuration of this hardware is selected. -/
theorem selectModel_of_idle {s : State} {m : Model} {p : Profile} (hidle : s.phase = .idle)
    (hp : profileOf s.profiles m = some p) (hc : ConfigOk { s.cfg with model := m, profile := p }) :
    selectModel m s = .next { s with cfg := { s.cfg with model := m, profile := p } } := by
  unfold selectModel
  rw [hp]
  dsimp only
  rw [if_neg (not_not_intro hc), if_pos (.inl hidle)]

/-- Settles O29: each row is the selection of its model. -/
theorem modelRowsSelectProfiles : Obligations.ModelRowsSelectProfiles := by
  intro s p hidle
  exact ⟨selectModel_of_idle (m := .m306) hidle, selectModel_of_idle (m := .m206) hidle,
    selectModel_of_idle (m := .m316) hidle, selectModel_of_idle (m := .m506) hidle,
    selectModel_of_idle (m := .m516) hidle⟩

/-- Settles O31: the reserved rows have no other outcome. -/
theorem reservedCodesRefused : Obligations.ReservedCodesRefused := by
  intro s
  exact ⟨rfl, rfl, rfl, rfl, rfl⟩

end Sys2Proof.Machine
end

section
/-! PROOFS. The wire rows (log 5): a cell row as its samples (R80, R95), the start cell (R81, R113), the data cells
(R82, R133, R134), the word as the delivery of its nine bits (R83, R135, R150). -/

namespace Sys2Proof.Machine

variable {s : State}

/-! ### A cell row is its samples (R80, R95, R96) -/

theorem feed_keeps_inputs (zs : List Bool) (s : State) : { feed zs s with inputs := s.inputs } = feed zs s :=
  (ticks_inputs (zs.map lineInput) s s.inputs).symm

/-- The machine, given samples of the line, steps to what the decoder makes of them. -/
theorem runsTo_feed (hc : ConfigOk s.cfg) (zs : List Bool) : RunsTo s zs (feed zs s) := by
  intro rest
  have hrun := runIsFoldOfTicks { s with inputs := zs.map lineInput ++ rest } (zs.map lineInput) rest hc rfl
  rw [List.length_map, ticks_inputs] at hrun
  exact hrun

/-- Settles O35: every cell row is the feeding of its samples. -/
theorem cellRowsAreTheirSamples : Obligations.CellRowsAreTheirSamples := by
  intro s lo hi hc
  have hrow : Host.Outcome.next (φ := Fault) (ρ := Refusal) (feed (cellTrace lo hi) s) =
      .next { feed (cellTrace lo hi) s with inputs := s.inputs } := congrArg _ (feed_keeps_inputs _ s).symm
  exact ⟨feed (cellTrace lo hi) s, runsTo_feed hc _, hrow, hrow, hrow, hrow⟩

/-! ### The start cell (R81, R113) -/

/-- A strobe within its budget is measured: the first low sample only enters MEAS_STROBE (R64). -/
theorem feed_low_waitStrobe (hp : s.phase = .waitStrobe) {t : Nat} (ht : t + 1 ≤ s.cfg.strobeMax) :
    feed (low (t + 1)) s = (s.enter .measStrobe).setCnt t := by
  rw [low_succ, feed_cons, tick_line_waitStrobe hp]
  have hlow := feed_low_measStrobe (s := s.enter .measStrobe) rfl (n := t) (by simpa using ht)
  simpa [waitstb] using hlow

/-- The rising edge takes the count as `T`, and the high part of the start cell is skipped (R113, R114). -/
theorem feed_high_measStrobe (hp : s.phase = .measStrobe) (ht : s.cnt ≠ 0) {g : Nat}
    (hg : g + 1 ≤ s.cfg.edgeWaitMax) :
    feed (high (g + 1)) s = ({ s with t := s.cnt }.enter .startHi).setCnt g := by
  rw [high_succ, feed_cons, tick_line_measStrobe hp]
  have hhigh := feed_high_startHi (s := { s with t := s.cnt }.enter .startHi) rfl (n := g) (by simpa using hg)
  simpa [measstb, ht] using hhigh

/-- Settles O33: its low run leaves the strobe in `CNT`, its high run takes it as `T`. -/
theorem startCellMeasuresStrobe : Obligations.StartCellMeasuresStrobe := by
  intro s t g hp ht htmax hgmax
  have hstart : feed (cellTrace t g) s = { s with t := t, phase := .startHi, cnt := g } := by
    rw [cellTrace, feed_append, feed_low_waitStrobe hp htmax,
      feed_high_measStrobe (s := (s.enter .measStrobe).setCnt t) rfl (Nat.ne_of_gt ht) hgmax]
    rfl
  exact congrArg Host.Outcome.next hstart

/-! ### The data cells (R82, R133, R134) -/

/-- A high run that reaches the upper bound ends the read at the sample that reaches it; nothing after it is examined
(R134, R203, R204). -/
theorem feed_high_cellHi_reaching (hp : s.phase = .cellHi) {n : Nat}
    (hnow : s.cnt * s.cfg.profile.upDen < s.cfg.profile.upNum * s.t)
    (hreach : s.cfg.profile.upNum * s.t ≤ (s.cnt + n) * s.cfg.profile.upDen) :
    feed (high n) s = s.raise .invalidBitTiming := by
  induction n generalizing s with
  | zero => exact absurd hnow (Nat.not_lt.2 hreach)
  | succ n ih =>
    rw [high_succ, feed_cons, tick_line_cellHi hp]
    rcases cellhi_cases true s with ⟨-, -, e⟩ | ⟨-, hnext, e⟩ | ⟨h, -⟩ | ⟨h, -⟩
    · rw [e]
      exact feed_idle rfl _
    · rw [e, ih (s := s.setCnt (s.cnt + 1)) hp hnext (by simpa [Nat.add_assoc, Nat.add_comm 1] using hreach)]
      rfl
    · cases h
    · cases h

/-- The samples of a data cell whose first one, an edge, leads to `u` in CELL_LO: what is left is its high run, from
CELL_HI. -/
theorem feed_dataCell {u : State} {lo : Nat} (hedge : tick (lineInput false) s = u) (hu : u.phase = .cellLo)
    (hcnt : u.cnt = 0) (hlo : lo + 1 ≤ u.cfg.edgeWaitMax) (hi : Nat) :
    feed (cellTrace lo hi) s = feed (high hi) (u.enter .cellHi) := by
  have hlow : feed (low lo) u = u.setCnt (u.cnt + lo) := feed_low_cellLo hu (by omega)
  rw [cellTrace, feed_append, low_succ, feed_cons, hedge, hlow, high_succ, feed_cons,
    tick_line_cellLo (s := u.setCnt (u.cnt + lo)) hu]
  rfl

/-- A cell with symbol 0 or 1 is measured. -/
theorem feed_dataCell_valid {u : State} {lo hi : Nat} (hedge : tick (lineInput false) s = u)
    (hu : u.phase = .cellLo) (hcnt : u.cnt = 0) (hlo : lo + 1 ≤ u.cfg.edgeWaitMax)
    (hvalid : classify u.cfg.profile hi u.t ≠ .invalid) :
    feed (cellTrace lo hi) s = { u with phase := .cellHi, cnt := hi } := by
  rw [Ne, classify_eq_invalid_iff, not_le] at hvalid
  rw [feed_dataCell hedge hu hcnt hlo, feed_high_cellHi rfl (by simpa using hvalid)]
  simp [State.enter, State.setCnt]

/-- A cell with symbol X ends the read. -/
theorem feed_dataCell_invalid {u : State} {lo hi : Nat} (hedge : tick (lineInput false) s = u)
    (hu : u.phase = .cellLo) (hcnt : u.cnt = 0) (hlo : lo + 1 ≤ u.cfg.edgeWaitMax)
    (hup : 1 ≤ u.cfg.profile.upNum) (ht : 1 ≤ u.t) (hinvalid : classify u.cfg.profile hi u.t = .invalid) :
    feed (cellTrace lo hi) s = u.raise .invalidBitTiming := by
  rw [classify_eq_invalid_iff] at hinvalid
  rw [feed_dataCell hedge hu hcnt hlo, feed_high_cellHi_reaching rfl (by simpa using Nat.mul_pos hup ht)
    (by simpa using hinvalid)]
  rfl

/-- The falling edge delivers the bit of the cell that has ended (R133). -/
theorem cellhi_false_of_classify {b : Bool} (h : classify s.cfg.profile s.cnt s.t = if b then .one else .zero) :
    cellhi false s = shift b s := by
  rw [cellhi, if_neg Bool.false_ne_true, h]
  cases b <;> rfl

/-- What the falling edge that ends a cell can lead to: the next cell, or the end of the read. `T` and the configuration
stay. -/
theorem cellhi_false_outcome (s : State) :
    ((cellhi false s).phase = .cellLo ∧ (cellhi false s).cnt = 0 ∨ (cellhi false s).phase = .idle) ∧
      (cellhi false s).cfg = s.cfg ∧ (cellhi false s).t = s.t := by
  rcases cellhi_cases false s with ⟨h, -⟩ | ⟨h, -⟩ | ⟨-, -, e⟩ | ⟨-, -, e⟩
  · cases h
  · cases h
  · rw [e]
    exact ⟨.inr rfl, rfl, rfl⟩
  · rw [e]
    generalize (classify s.cfg.profile s.cnt s.t == .one) = b
    obtain ⟨hcfg, -, -, ht⟩ := shift_keeps b s
    refine ⟨?_, hcfg, ht⟩
    rcases shift_outcomes b s with ⟨-, e⟩ | ⟨-, -, e⟩ | ⟨-, -, -, e⟩ | ⟨-, -, -, e⟩ <;> rw [e]
    · exact .inl ⟨rfl, rfl⟩
    · exact .inr rfl
    · exact .inl ⟨rfl, rfl⟩
    · exact .inr rfl

/-- The SYM rows on a cell that the edge to `u` begins. -/
theorem dataCell_rows {u : State} {lo hi : Nat} (hedge : tick (lineInput false) s = u)
    (hu : u.phase = .cellLo) (hcnt : u.cnt = 0) (hlo : lo + 1 ≤ u.cfg.edgeWaitMax)
    (hup : 1 ≤ u.cfg.profile.upNum) (ht : 1 ≤ u.t) :
    (classify u.cfg.profile hi u.t = .zero →
      exec (.sym0 lo hi) s = .next { u with phase := .cellHi, cnt := hi } ∧
      ∀ st, exec (.cellhi st false) { u with phase := .cellHi, cnt := hi } =
        exec (.shift false) { u with phase := .cellHi, cnt := hi }) ∧
    (classify u.cfg.profile hi u.t = .one →
      exec (.sym1 lo hi) s = .next { u with phase := .cellHi, cnt := hi } ∧
      ∀ st, exec (.cellhi st false) { u with phase := .cellHi, cnt := hi } =
        exec (.shift true) { u with phase := .cellHi, cnt := hi }) ∧
    (classify u.cfg.profile hi u.t = .invalid →
      exec (.symx lo hi) s = .next (u.raise .invalidBitTiming)) := by
  refine ⟨fun h => ⟨?_, fun _ => ?_⟩, fun h => ⟨?_, fun _ => ?_⟩, fun h => ?_⟩
  · exact congrArg Host.Outcome.next (feed_dataCell_valid hedge hu hcnt hlo (by simp [h]))
  · exact congrArg Host.Outcome.next (cellhi_false_of_classify (b := false) h)
  · exact congrArg Host.Outcome.next (feed_dataCell_valid hedge hu hcnt hlo (by simp [h]))
  · exact congrArg Host.Outcome.next (cellhi_false_of_classify (b := true) h)
  · exact congrArg Host.Outcome.next (feed_dataCell_invalid hedge hu hcnt hlo hup ht h)

/-- Settles O34: the edge of the first cell ends START_HI, that of a later one ends the cell before. -/
theorem dataCellRowsDeliverSymbols : Obligations.DataCellRowsDeliverSymbols := by
  constructor
  · intro s lo hi hp hup ht hlo
    exact dataCell_rows (u := s.enter .cellLo) (tick_line_startHi hp false) rfl rfl hlo hup ht
  · intro s u lo hi hp hstep hup ht hlo
    have hedge : tick (lineInput false) s = u := by
      rw [tick_line_cellHi hp]
      exact Host.Outcome.next.inj hstep
    obtain ⟨hphase, hcfg, htu⟩ := cellhi_false_outcome s
    rw [← tick_line_cellHi hp, hedge] at hphase hcfg htu
    refine ⟨hphase.imp_left And.left, fun hu => ?_, fun hu => ?_⟩
    · have hcnt : u.cnt = 0 := by simpa [hu] using hphase
      exact dataCell_rows hedge hu hcnt (hcfg ▸ hlo) (hcfg ▸ hup) (htu ▸ ht)
    · have hrow : exec (.sym0 lo hi) s = .next u := by
        refine congrArg Host.Outcome.next ?_
        rw [cellTrace, low_succ, List.cons_append, feed_cons, hedge, feed_idle hu]
      exact ⟨hrow, hrow, hrow⟩

/-! ### The delivery of bits (R67, R135, R150) -/

theorem receiving_iff : s.receiving = true ↔ InCells s := by
  simp [State.receiving, InCells, or_assoc]

theorem deliverBit_of_inCells (h : InCells s) (b : Bool) : deliverBit b s = shift b s :=
  if_pos (receiving_iff.2 h)

theorem deliverBits_nil (s : State) : deliverBits [] s = s := rfl

theorem deliverBits_cons (b : Bool) (l : List Bool) (s : State) :
    deliverBits (b :: l) s = deliverBits l (deliverBit b s) := rfl

theorem deliverBits_of_not_inCells (h : ¬InCells s) (l : List Bool) : deliverBits l s = s := by
  induction l with
  | nil => rfl
  | cons b l ih =>
    have hb : deliverBit b s = s := if_neg (mt receiving_iff.1 h)
    rw [deliverBits_cons, hb, ih]

theorem deliverBits_append (l l' : List Bool) (s : State) :
    deliverBits (l ++ l') s = deliverBits l' (deliverBits l s) := List.foldl_append ..

/-- Bits of an incomplete word go into `SH` one after the other. -/
theorem deliverBits_incomplete {l : List Bool} (hl : l ≠ []) (hs : InCells s) (hn : s.nbits + l.length ≤ 8) :
    deliverBits l s =
      { s with sh := l.foldl shiftIn s.sh, nbits := s.nbits + l.length, phase := .cellLo, cnt := 0 } := by
  induction l generalizing s with
  | nil => exact absurd rfl hl
  | cons b l ih =>
    rw [List.length_cons] at hn
    have hb : deliverBit b s = { s with sh := shiftIn s.sh b, nbits := s.nbits + 1, phase := .cellLo, cnt := 0 } := by
      rw [deliverBit_of_inCells hs]
      rcases shift_cases b s with ⟨-, e⟩ | ⟨h8, -⟩
      · exact e
      · omega
    rw [deliverBits_cons, hb]
    cases l with
    | nil => rfl
    | cons b' l =>
      rw [ih (List.cons_ne_nil b' l) (.inr (.inl rfl)) (by dsimp only; omega)]
      simp [Nat.add_assoc, Nat.add_comm 1]

/-- Nine bits, from the first bit of a word on, leave their word in `SH`, and it is checked (R151). -/
theorem deliverBits_nine {l : List Bool} (hs : InCells s) (hn : s.nbits = 0) (hl : l.length = 9) :
    deliverBits l s =
      wordchk (l.foldl shiftIn s.sh) { s with sh := l.foldl shiftIn s.sh, phase := .cellLo, cnt := 0 } := by
  rcases List.eq_nil_or_concat' l with rfl | ⟨l, b, rfl⟩
  · cases hl
  · rw [List.length_append, List.length_singleton] at hl
    have hne : l ≠ [] := List.ne_nil_of_length_pos (by omega)
    rw [deliverBits_append, deliverBits_incomplete hne hs (by omega), List.foldl_append, deliverBits_cons,
      deliverBits_nil, deliverBit_of_inCells (.inr (.inl rfl)), shift, if_neg (by simp [dataBits]; omega)]
    simp [hn]

theorem getLsbD_shiftIn_zero (sh : Word9) (b : Bool) : (shiftIn sh b).getLsbD 0 = b := by
  rw [shiftIn, BitVec.getLsbD_append]
  simp

theorem getLsbD_shiftIn_succ (sh : Word9) (b : Bool) {i : Nat} (hi : i < 8) :
    (shiftIn sh b).getLsbD (i + 1) = sh.getLsbD i := by
  rw [shiftIn, BitVec.getLsbD_append]
  simp [hi]

/-- Bit `i` of `SH` after some shifts is the bit shifted in `i` shifts before the last, or an older bit of `SH`
(R150). -/
theorem getLsbD_foldl_shiftIn (l : List Bool) (sh : Word9) {i : Nat} (hi : i < 9) :
    (l.foldl shiftIn sh).getLsbD i = l.reverse[i]?.getD (sh.getLsbD (i - l.length)) := by
  induction l using List.reverseRecOn generalizing i with
  | nil => rfl
  | append_singleton l b ih =>
    rw [List.foldl_append, List.foldl_cons, List.foldl_nil, List.reverse_concat]
    cases i with
    | zero => rw [getLsbD_shiftIn_zero]; rfl
    | succ i => rw [getLsbD_shiftIn_succ _ _ (by omega), ih (by omega)]; simp

theorem length_bitsMsb {n : Nat} (v : BitVec n) : (bitsMsb v).length = n := by
  simp [bitsMsb]

/-- The bit that arrives last is the least significant (R11). -/
theorem getElem?_reverse_bitsMsb {n i : Nat} (v : BitVec n) (hi : i < n) :
    (bitsMsb v).reverse[i]? = some (v.getLsbD i) := by
  have hfirst : n - 1 - i < n := by omega
  have hback : n - 1 - (n - 1 - i) = i := by omega
  rw [List.getElem?_reverse (by rwa [length_bitsMsb]), length_bitsMsb, bitsMsb, List.getElem?_map,
    List.getElem?_range hfirst, Option.map_some, BitVec.getMsbD, decide_eq_true hfirst, Bool.true_and, hback]

/-- The nine bits of a word, shifted in one after the other, leave the word. -/
theorem foldl_shiftIn_bitsMsb (w sh : Word9) : (bitsMsb w).foldl shiftIn sh = w := by
  refine BitVec.eq_of_getLsbD_eq fun i hi => ?_
  rw [getLsbD_foldl_shiftIn _ _ hi, getElem?_reverse_bitsMsb w hi, Option.getD_some]

theorem deliverBits_bitsMsb (w : Word9) (hs : InCells s) (hn : s.nbits = 0) :
    deliverBits (bitsMsb w) s = wordchk w { s with sh := w, phase := .cellLo, cnt := 0 } := by
  rw [deliverBits_nine hs hn rfl, foldl_shiftIn_bitsMsb]

/-- Settles O36: while cells are received the nine bits are the whole of `SH`. -/
theorem wordRowFillsWord : Obligations.WordRowFillsWord := by
  intro s w
  exact ⟨⟨_, rfl⟩, fun hs hn => congrArg Host.Outcome.next (deliverBits_bitsMsb w hs hn),
    fun hs => congrArg Host.Outcome.next (deliverBits_of_not_inCells hs _)⟩

end Sys2Proof.Machine
end

section
/-! PROOFS. The strobe synchronizer (`spec/40_strobe_sync.md`): NOP and READ, the independence of reads (R110(d)), the
rules of WAITSTB, MEASSTB and STARTHI, and the run-length view of the strobe stage (R115). -/

namespace Sys2Proof.Machine

variable {s : State}

/-! ### The host's commands (R110, R111) -/

/-- Settles O5: NOP is the identity, and the idle step takes its input alone, which no port shows. -/
theorem nopChangesNothing : Obligations.NopChangesNothing := by
  refine ⟨fun _ _ => rfl, fun s hc hp hrst hstart => ⟨step_idle hc hp hrst hstart, ?_, rfl⟩⟩
  rw [State.busy, hp]
  rfl

theorem read_phase_ne_idle (s : State) : (read s).phase ≠ .idle := by
  rw [read_eq]
  cases s.cfg.powerCtrl <;> simp

/-- Settles O6: the flags are those of a phase other than IDLE (R34). -/
theorem readStartsRead : Obligations.ReadStartsRead := by
  intro zw s
  have hbusy := read_phase_ne_idle s
  refine ⟨read s, rfl, read_eq s, busy_iff.2 hbusy, ?_, ?_⟩
  · exact Bool.eq_false_iff.2 fun h => hbusy (done_iff.1 h).1
  · exact Bool.eq_false_iff.2 fun h => hbusy (valid_iff.1 h).1

/-- In an idle state of R42 the supply is off, so READ starts from the reset state of the machine's construction: of the
registers before it nothing is left. -/
theorem read_of_sequencerInv (hidle : s.phase = .idle) (h : SequencerInv s) :
    read s =
      { State.resetWith s.cfg s.profiles s.inputs with
        pwr := s.cfg.powerCtrl
        phase := if s.cfg.powerCtrl then .settle else .waitStrobe
        result := s.result } := by
  obtain ⟨-, -, -, -, -, hpwr, -⟩ := h
  have hoff : s.pwr = false := by simpa [hidle] using hpwr
  rw [read_eq, hoff]
  cases s.cfg.powerCtrl <;> rfl

/-- Settles O54: the step is a reset or READ, and either gives a state of the construction alone, but for `result`. -/
theorem readsAreIndependent : Obligations.ReadsAreIndependent := by
  intro s u hc hs hu hsidle huidle hcfg hprofiles hinputs hstart
  have hsample : u.sample = s.sample := by rw [State.sample, State.sample, hinputs]
  refine ⟨_, _, step_eq hc, step_eq (hcfg ▸ hc), ?_⟩
  rw [hsample]
  cases hrst : s.sample.rst with
  | true =>
    rw [tick_rst hrst, tick_rst hrst, resetRegs_of_sequencerInv hs, resetRegs_of_sequencerInv hu, hcfg,
      hprofiles, hinputs]
  | false =>
    rw [tick_idle hrst hsidle, tick_idle hrst huidle, hstart, if_pos rfl, if_pos rfl,
      read_of_sequencerInv hsidle hs, read_of_sequencerInv huidle hu, hcfg, hprofiles, hinputs]

/-! ### The ticks of the strobe stage (R112 to R114) -/

/-- Settles O7, by the branches of WAITSTB: the line is low, the budget is used up, the wait goes on. -/
theorem waitstbFollowsRule : Obligations.WaitstbFollowsRule := by
  intro st zw s
  refine congrArg Host.Outcome.next ?_
  rcases waitstb_cases zw s with ⟨rfl, e⟩ | ⟨rfl, hcnt, e⟩ | ⟨rfl, hcnt, e⟩ <;> rw [e]
  · rfl
  · rw [if_neg Bool.false_ne_true.symm, if_pos hcnt]
    rfl
  · rw [if_neg Bool.false_ne_true.symm, if_neg hcnt]
    rfl

/-- Settles O8, by the branches of MEASSTB: a low sample that uses up the budget or does not, a high sample after a
strobe of one sample or after a longer one. -/
theorem measstbFollowsRule : Obligations.MeasstbFollowsRule := by
  intro st zw s
  refine congrArg Host.Outcome.next ?_
  rcases measstb_cases zw s with ⟨rfl, hcnt, e⟩ | ⟨rfl, hcnt, e⟩ | ⟨rfl, hcnt, e⟩ | ⟨rfl, hcnt, e⟩ <;> rw [e]
  · rw [if_pos rfl, if_pos hcnt]
    rfl
  · rw [if_pos rfl, if_neg hcnt]
    rfl
  · rw [if_neg Bool.false_ne_true.symm, if_pos hcnt]
    rfl
  · rw [if_neg Bool.false_ne_true.symm, if_neg hcnt]
    rfl

/-- Settles O9, by the branches of STARTHI: the falling edge, the budget is used up, the high part goes on. -/
theorem starthiFollowsRule : Obligations.StarthiFollowsRule := by
  intro st zw s
  refine congrArg Host.Outcome.next ?_
  rcases starthi_cases zw s with ⟨rfl, e⟩ | ⟨rfl, hcnt, e⟩ | ⟨rfl, hcnt, e⟩ <;> rw [e]
  · rfl
  · rw [if_pos rfl, if_pos hcnt]
    rfl
  · rw [if_pos rfl, if_neg hcnt]
    rfl

/-! ### Runs of equal samples that use up the budget of their phase (R201) -/

theorem feed_high_last (n : Nat) (s : State) : feed (high (n + 1)) s = tick (lineInput true) (feed (high n) s) := by
  rw [high, List.replicate_succ', feed_append]
  rfl

theorem feed_low_last (n : Nat) (s : State) : feed (low (n + 1)) s = tick (lineInput false) (feed (low n) s) := by
  rw [low, List.replicate_succ', feed_append]
  rfl

theorem feed_high_waitStrobe_timeout (hp : s.phase = .waitStrobe) {n : Nat}
    (hbudget : s.cnt + n + 1 = s.cfg.strobeWaitMax) : feed (high (n + 1)) s = s.raise .timeout := by
  have hlast : s.cnt + n = s.cfg.strobeWaitMax - 1 := by omega
  rw [feed_high_last, feed_high_waitStrobe hp (by omega), tick_line_waitStrobe (s := s.setCnt (s.cnt + n)) hp,
    waitstb, if_pos rfl]
  exact if_pos hlast

theorem feed_low_measStrobe_timeout (hp : s.phase = .measStrobe) {n : Nat}
    (hbudget : s.cnt + n + 1 = s.cfg.strobeMax) : feed (low (n + 1)) s = s.raise .timeout := by
  rw [feed_low_last, feed_low_measStrobe hp (by omega), tick_line_measStrobe (s := s.setCnt (s.cnt + n)) hp,
    measstb, if_neg Bool.false_ne_true]
  exact if_pos hbudget

theorem feed_high_startHi_timeout (hp : s.phase = .startHi) {n : Nat}
    (hbudget : s.cnt + n + 1 = s.cfg.edgeWaitMax) : feed (high (n + 1)) s = s.raise .timeout := by
  rw [feed_high_last, feed_high_startHi hp (by omega), tick_line_startHi (s := s.setCnt (s.cnt + n)) hp,
    starthi, if_pos rfl]
  exact if_pos hbudget

/-! ### The run-length view of the strobe stage (R115) -/

theorem runsTo_of_feed_eq {zs : List Bool} {u : State} (hc : ConfigOk s.cfg) (h : feed zs s = u) : RunsTo s zs u :=
  h ▸ runsTo_feed hc zs

/-- An idle line within its budget is only counted, and the count is dropped at the falling edge, so `n + 1` low samples
after it leave `n` in `CNT` (R64, R112, R113). -/
theorem feed_idleLine_strobe (hp : s.phase = .waitStrobe) {a n : Nat} (ha : s.cnt + a < s.cfg.strobeWaitMax)
    (hn : n + 1 ≤ s.cfg.strobeMax) :
    feed (high a ++ low (n + 1)) s = { s with phase := .measStrobe, cnt := n } := by
  rw [feed_append, feed_high_waitStrobe hp ha]
  exact feed_low_waitStrobe (s := s.setCnt (s.cnt + a)) hp hn

/-- A strobe of one sample is refused at the rising edge (R202). -/
theorem feed_shortStrobe (hp : s.phase = .waitStrobe) {a : Nat} (ha : s.cnt + a < s.cfg.strobeWaitMax)
    (hmax : 1 ≤ s.cfg.strobeMax) : feed (high a ++ low 1 ++ high 1) s = s.raise .invalidStrobeLength := by
  rw [feed_append, feed_idleLine_strobe hp ha hmax]
  rfl

/-- A line stuck low is given up at the sample that uses up `STROBE_MAX`; the one that entered MEAS_STROBE does not
count (R64, R113). -/
theorem feed_stuckLow (hp : s.phase = .waitStrobe) {a m : Nat} (ha : s.cnt + a < s.cfg.strobeWaitMax)
    (hm : m + 1 = s.cfg.strobeMax) : feed (high a ++ low (m + 1 + 1)) s = s.raise .timeout := by
  rw [feed_append, feed_high_waitStrobe hp ha, low_succ, feed_cons,
    tick_line_waitStrobe (s := s.setCnt (s.cnt + a)) hp]
  exact feed_low_measStrobe_timeout (s := (s.setCnt (s.cnt + a)).enter .measStrobe) rfl (n := m)
    (by simpa using hm)

/-- A start cell that never ends is given up at the sample that uses up `EDGE_WAIT_MAX`, with the strobe already
measured (R114). -/
theorem feed_endlessStartCell (hp : s.phase = .measStrobe) (ht : s.cnt ≠ 0) {m : Nat}
    (hm : m + 1 = s.cfg.edgeWaitMax) :
    feed (high (m + 1 + 1)) s = { s with t := s.cnt }.raise .timeout := by
  rw [high_succ, feed_cons, tick_line_measStrobe hp, measstb, if_pos rfl, if_neg ht]
  exact feed_high_startHi_timeout (s := { s with t := s.cnt }.enter .startHi) rfl (by simpa using hm)

/-- The falling edge after the high part of the start cell is the first low sample of the first data cell (R114). -/
theorem feed_startCell_end (hp : s.phase = .measStrobe) (ht : s.cnt ≠ 0) {g : Nat} (hg : g + 1 ≤ s.cfg.edgeWaitMax) :
    feed (high (g + 1) ++ low 1) s = { s with t := s.cnt, phase := .cellLo, cnt := 0 } := by
  rw [feed_append, feed_high_measStrobe hp ht hg]
  rfl

/-- Settles O39: each branch is the samples of the line up to the one that decides it. The run lengths of the statement
are one longer than the counts they leave (R64). -/
theorem strobeRunLengthView : Obligations.StrobeRunLengthView := by
  intro s a n g hc hp hcnt hn hg
  have ⟨_, _, _, ⟨hwait, hstrobe, hedge, _⟩, _⟩ := hc
  obtain ⟨n, rfl⟩ := Nat.exists_eq_add_of_le' hn
  obtain ⟨g, rfl⟩ := Nat.exists_eq_add_of_le' hg
  obtain ⟨w, hw⟩ := Nat.exists_eq_add_of_le' hwait
  obtain ⟨m, hm⟩ := Nat.exists_eq_add_of_le' (Nat.le_of_succ_le hstrobe)
  obtain ⟨e, he⟩ := Nat.exists_eq_add_of_le' hedge
  refine ⟨fun _ => runsTo_of_feed_eq hc ?_, fun ha => ?_⟩
  · rw [hw]
    exact feed_high_waitStrobe_timeout hp (by omega)
  replace ha : s.cnt + a < s.cfg.strobeWaitMax := by omega
  refine ⟨fun _ => runsTo_of_feed_eq hc ?_, fun _ => runsTo_of_feed_eq hc ?_, fun hlong hshort => ?_⟩
  · exact feed_shortStrobe hp ha (Nat.le_of_succ_le hstrobe)
  · rw [hm]
    exact feed_stuckLow hp ha hm.symm
  · have hstrobeNe : n ≠ 0 := by omega
    refine ⟨fun _ => runsTo_of_feed_eq hc ?_, fun hgmax => runsTo_of_feed_eq hc ?_⟩
    · rw [feed_append, feed_idleLine_strobe hp ha hshort, he]
      exact feed_endlessStartCell rfl hstrobeNe he.symm
    · rw [List.append_assoc, feed_append, feed_idleLine_strobe hp ha hshort]
      exact feed_startCell_end rfl hstrobeNe hgmax

end Sys2Proof.Machine
end

section
/-! PROOFS. The pulse classifier (`spec/41_bit_decoder.md`): the rules of CELLLO, CLASSIFY and CELLHI, and the run-length
view of a data cell (R134). -/

namespace Sys2Proof.Machine

variable {s : State}

/-! ### The ratio test (R131) -/

/-- `T = 0` reaches the upper bound at once (R131(f); log 13). -/
theorem classify_zero_strobe (p : Profile) (hi : Nat) : classify p hi 0 = .invalid :=
  classify_eq_invalid_iff.2 (Nat.zero_le _)

/-- Beyond the upper bound there is no way back (R131(d)). -/
theorem classify_eq_invalid_of_le {p : Profile} {hi hi' t : Nat} (hle : hi ≤ hi')
    (h : classify p hi t = .invalid) : classify p hi' t = .invalid := by
  rw [classify_eq_invalid_iff] at h ⊢
  exact h.trans (Nat.mul_le_mul_right _ hle)

/-- Beyond the threshold there is no way back to 0 (R131(d)). -/
theorem classify_ne_zero_of_le {p : Profile} {hi hi' t : Nat} (hle : hi ≤ hi')
    (h : classify p hi t = .one) : classify p hi' t ≠ .zero := by
  intro hzero
  obtain ⟨-, hthr⟩ := classify_eq_one_iff.1 h
  obtain ⟨-, hbelow⟩ := classify_eq_zero_iff.1 hzero
  exact absurd (hthr.trans (Nat.mul_le_mul_right _ hle)) (Nat.not_le.2 hbelow)

/-- Settles O13: the table is the definition; a duration that has reached a bound stays beyond it. -/
theorem classifyFollowsRule : Obligations.ClassifyFollowsRule :=
  ⟨fun _ _ _ => rfl, classify_zero_strobe,
    fun _ _ _ _ hle => ⟨classify_eq_invalid_of_le hle, classify_ne_zero_of_le hle⟩, fun _ => rfl⟩

/-! ### The ticks of a data cell (R130, R133) -/

/-- Settles O10, by the branches of CELLLO: the rising edge, the budget is used up, the low part goes on. -/
theorem cellloFollowsRule : Obligations.CellloFollowsRule := by
  intro st zw s
  refine congrArg Host.Outcome.next ?_
  rcases celllo_cases zw s with ⟨rfl, e⟩ | ⟨rfl, hcnt, e⟩ | ⟨rfl, hcnt, e⟩ <;> rw [e]
  · rfl
  · rw [if_pos rfl, if_pos hcnt]
    rfl
  · rw [if_pos rfl, if_neg hcnt]
    rfl

/-- The check at every high sample leaves no X for the falling edge (R42(d), R133(a)). -/
theorem classify_ne_invalid_of_sequencerInv (hs : SequencerInv s) (hp : s.phase = .cellHi) :
    classify s.cfg.profile s.cnt s.t ≠ .invalid := by
  obtain ⟨-, -, -, hvalid, -⟩ := hs
  exact fun h => absurd (hvalid hp) (Nat.not_lt.2 (classify_eq_invalid_iff.1 h))

/-- Settles O11, by the branches of CELLHI: a high sample that reaches the upper bound or does not, and the falling edge
with each of the three symbols. -/
theorem cellhiFollowsRule : Obligations.CellhiFollowsRule := by
  refine ⟨fun st zw s => ⟨?_, cellhi zw s, rfl⟩, fun s => classify_ne_invalid_of_sequencerInv⟩
  cases zw with
  | true =>
    rw [if_pos rfl]
    rcases cellhi_cases true s with ⟨-, hreach, e⟩ | ⟨-, hbelow, e⟩ | ⟨h, -⟩ | ⟨h, -⟩
    · rw [if_pos hreach]
      exact congrArg Host.Outcome.next e
    · rw [if_neg (Nat.not_le.2 hbelow)]
      exact congrArg Host.Outcome.next e
    · cases h
    · cases h
  | false =>
    rw [if_neg Bool.false_ne_true]
    cases hy : classify s.cfg.profile s.cnt s.t with
    | zero => exact congrArg Host.Outcome.next (cellhi_false_of_classify (b := false) hy)
    | one => exact congrArg Host.Outcome.next (cellhi_false_of_classify (b := true) hy)
    | invalid => exact congrArg (fun y => Host.Outcome.next (deliverSymbol y s)) hy

/-! ### The run-length view of a data cell (R134) -/

theorem feed_low_cellLo_timeout (hp : s.phase = .cellLo) {n : Nat} (hbudget : s.cnt + n + 1 = s.cfg.edgeWaitMax) :
    feed (low (n + 1)) s = s.raise .timeout := by
  rw [feed_low_last, feed_low_cellLo hp (by omega), tick_line_cellLo (s := s.setCnt (s.cnt + n)) hp, celllo,
    if_neg Bool.false_ne_true]
  exact if_pos hbudget

/-- A low part within its budget leaves nothing behind: its first high sample starts the measurement at 0 (R130(a)). -/
theorem feed_low_high_cellLo (hp : s.phase = .cellLo) {n : Nat} (hn : s.cnt + n < s.cfg.edgeWaitMax) (hi : Nat) :
    feed (low n ++ high (hi + 1)) s = feed (high hi) (s.enter .cellHi) := by
  rw [feed_append, feed_low_cellLo hp hn, high_succ, feed_cons, tick_line_cellLo (s := s.setCnt (s.cnt + n)) hp]
  rfl

/-- The read ends at the high sample whose duration is `HLIM`, the least one that reaches the upper bound (R203). -/
theorem feed_longCell (hp : s.phase = .cellLo) {n : Nat} (hn : s.cnt + n < s.cfg.edgeWaitMax)
    (hpos : RatiosPositive s.cfg.profile) (ht : 1 ≤ s.t) :
    feed (low n ++ high (hlim s.cfg.profile s.t + 1)) s = s.raise .invalidBitTiming := by
  have ⟨_, _, hupNum, hupDen, _⟩ := hpos
  have hreach := (hlim_le_iff (p := s.cfg.profile) (t := s.t) hupDen).1 le_rfl
  rw [feed_low_high_cellLo hp hn, feed_high_cellHi_reaching rfl (by simpa using Nat.mul_pos hupNum ht)
    (by simpa using hreach)]
  rfl

/-- The bit of a valid cell is delivered at the low sample that follows its high run (R133(b)). -/
theorem feed_cell_delivers (hp : s.phase = .cellLo) {n hi : Nat} (hn : s.cnt + n < s.cfg.edgeWaitMax) {b : Bool}
    (hy : classify s.cfg.profile hi s.t = if b then .one else .zero) :
    feed (low n ++ high (hi + 1) ++ low 1) s = shift b { s with phase := .cellHi, cnt := hi } := by
  have hvalid : classify s.cfg.profile hi s.t ≠ .invalid := by
    rw [hy]
    cases b <;> decide
  have hmeasured : feed (high hi) (s.enter .cellHi) = { s with phase := .cellHi, cnt := hi } := by
    rw [feed_high_cellHi rfl (by simpa using classify_ne_invalid_of_le le_rfl hvalid), enter_cnt, Nat.zero_add]
    rfl
  rw [feed_append, feed_low_high_cellLo hp hn, hmeasured]
  exact cellhi_false_of_classify (s := { s with phase := .cellHi, cnt := hi }) hy

/-- Settles O40: each branch is the samples of the cell up to the one that decides it. The first low sample has entered
CELL_LO, so `l - 1` are left (R130). -/
theorem cellRunLengthView : Obligations.CellRunLengthView := by
  intro s l m hc hp hcnt ht hl hm
  have ⟨hpos, _, _, ⟨_, _, hedge, _⟩, _⟩ := hc
  have ⟨_, _, _, hupDen, _⟩ := hpos
  obtain ⟨hi, rfl⟩ := Nat.exists_eq_add_of_le' hm
  obtain ⟨e, he⟩ := Nat.exists_eq_add_of_le' hedge
  refine ⟨fun _ => runsTo_of_feed_eq hc ?_, fun hlow => ?_⟩
  · rw [he]
    exact feed_low_cellLo_timeout hp (by omega)
  replace hlow : s.cnt + (l - 1) < s.cfg.edgeWaitMax := by omega
  rw [Nat.add_sub_cancel]
  refine ⟨fun hy => ⟨?_, runsTo_of_feed_eq hc ?_⟩, fun hy => runsTo_of_feed_eq hc ?_,
    fun hy => runsTo_of_feed_eq hc ?_⟩
  · exact Nat.succ_le_succ ((hlim_le_iff hupDen).2 (classify_eq_invalid_iff.1 hy))
  · exact feed_longCell hp hlow hpos ht
  · exact feed_cell_delivers (b := false) hp hlow hy
  · exact feed_cell_delivers (b := true) hp hlow hy

end Sys2Proof.Machine
end

section
/-! PROOFS. The word assembler, the parity validator and the frame assembler (`spec/42_word_frame.md`): the rules of SHIFT,
WORDCHK, PARITY_OK and FRAME, what the registers hold between bits (R154), the encoder and the frames it gives (R155). -/

namespace Sys2Proof.Machine

variable {s : State}

/-! ### The rules of SHIFT, WORDCHK and FRAME (R150, R151, R153) -/

/-- Settles O15, by the two branches of SHIFT: the word is incomplete, or this was its ninth bit. -/
theorem shiftFollowsRule : Obligations.ShiftFollowsRule := by
  intro b s
  refine ⟨?_, shift b s, rfl⟩
  rcases shift_cases b s with ⟨hn, e⟩ | ⟨hn, e⟩
  · rw [if_pos hn]
    exact congrArg Host.Outcome.next e
  · rw [if_neg (Nat.not_lt.2 hn)]
    exact congrArg Host.Outcome.next e

/-- Settles O16: the bits of one shift, and nine shifts as the bits of a word in arrival order. -/
theorem nineShiftsReplaceWord : Obligations.NineShiftsReplaceWord :=
  ⟨fun sh b => ⟨getLsbD_shiftIn_zero sh b, fun _ hi => getLsbD_shiftIn_succ sh b hi⟩, foldl_shiftIn_bitsMsb⟩

/-- Settles O17, by the three ways a complete word goes on. -/
theorem wordchkFollowsRule : Obligations.WordchkFollowsRule := by
  intro w s
  refine ⟨?_, wordchk w s, rfl⟩
  rcases wordchk_cases w s with ⟨hp, e⟩ | ⟨hp, hw, e⟩ | ⟨hp, hw, e⟩
  · rw [if_pos hp]
    exact congrArg Host.Outcome.next e
  · rw [if_neg (by simp [hp]), if_pos hw]
    exact congrArg Host.Outcome.next e
  · rw [if_neg (by simp [hp]), if_neg (by simp [hw])]
    exact congrArg Host.Outcome.next e

theorem toNat_joinBytes (hi lo : Byte) : (joinBytes hi lo).toNat = hi.toNat * 256 + lo.toNat := by
  rw [joinBytes, BitVec.toNat_append, ← Nat.shiftLeft_add_eq_or_of_lt lo.isLt, Nat.shiftLeft_eq]

/-- Settles O19: the upper byte counts 256 times. -/
theorem frameFollowsRule : Obligations.FrameFollowsRule := fun d s =>
  ⟨rfl, toNat_joinBytes s.byteHi d, frame d s, rfl⟩

/-! ### The parity predicate (R152) -/

/-- Whether a count is odd is the xor of the bits it counts. -/
theorem countP_odd_eq_foldr_xor {α : Type} (p : α → Bool) (l : List α) :
    (l.countP p % 2 == 1) = l.foldr (fun a b => p a ^^ b) false := by
  induction l with
  | nil => rfl
  | cons a l ih =>
    rw [List.foldr_cons, ← ih, List.countP_cons]
    rcases Nat.mod_two_eq_zero_or_one (l.countP p) with h | h <;> cases p a <;> simp [Nat.add_mod, h]

theorem foldr_xor_distrib {α : Type} (p q : α → Bool) (l : List α) :
    l.foldr (fun a b => (p a ^^ q a) ^^ b) false =
      (l.foldr (fun a b => p a ^^ b) false ^^ l.foldr (fun a b => q a ^^ b) false) := by
  induction l with
  | nil => rfl
  | cons a l ih =>
    rw [List.foldr_cons, List.foldr_cons, List.foldr_cons, ih]
    simp only [Bool.xor_assoc, Bool.xor_left_comm]

theorem parityOk_eq_foldr_xor (w : Word9) :
    parityOk w = (List.range 9).foldr (fun i b => w.getLsbD i ^^ b) false := countP_odd_eq_foldr_xor _ _

/-- The second line of R152. -/
theorem parityOk_eq_xor_bits (w : Word9) :
    parityOk w =
      (w.getLsbD 8 ^^ w.getLsbD 7 ^^ w.getLsbD 6 ^^ w.getLsbD 5 ^^ w.getLsbD 4 ^^ w.getLsbD 3 ^^ w.getLsbD 2 ^^
        w.getLsbD 1 ^^ w.getLsbD 0) := by
  have hbits : List.range 9 = [0, 1, 2, 3, 4, 5, 6, 7, 8] := rfl
  rw [parityOk_eq_foldr_xor, hbits]
  simp only [List.foldr_cons, List.foldr_nil, Bool.xor_false]
  simp only [Bool.xor_comm]

theorem parityOk_iff (w : Word9) : parityOk w = true ↔ popcount w % 2 = 1 := beq_iff_eq

/-- Parity is linear: flips count by their own parity. -/
theorem parityOk_xor (v w : Word9) : parityOk (v ^^^ w) = (parityOk v ^^ parityOk w) := by
  simp only [parityOk_eq_foldr_xor, BitVec.getLsbD_xor]
  exact foldr_xor_distrib _ _ _

theorem parityOk_twoPow : ∀ i < 9, parityOk (BitVec.twoPow 9 i) = true := by decide

theorem parityOk_flip (w : Word9) {i : Nat} (hi : i < 9) : parityOk (w ^^^ BitVec.twoPow 9 i) = !parityOk w := by
  rw [parityOk_xor, parityOk_twoPow i hi, Bool.xor_true]

/-- Settles O18: the flip of a bit negates the parity, so a second one restores it. -/
theorem parityIsOddParity : Obligations.ParityIsOddParity := by
  refine ⟨parityOk_eq_xor_bits, parityOk_iff, fun w i hi => parityOk_flip w hi, fun w i j hi hj _ => ?_, fun _ _ => rfl⟩
  rw [parityOk_flip _ hj, parityOk_flip w hi, Bool.not_not]

/-! ### The encoder (R83, R155) -/

theorem popcount_append_ofBool {n : Nat} (v : BitVec n) (b : Bool) :
    popcount (v ++ BitVec.ofBool b) = popcount v + b.toNat := by
  have hlast : (v ++ BitVec.ofBool b).getLsbD 0 = b := by
    rw [BitVec.getLsbD_append, if_pos Nat.one_pos, BitVec.getLsbD_ofBool]
    rfl
  have hrest : (v ++ BitVec.ofBool b).getLsbD ∘ Nat.succ = v.getLsbD := by
    funext i
    simp [BitVec.getLsbD_append]
  rw [popcount, List.range_succ_eq_map, List.countP_cons, List.countP_map, hrest, hlast, popcount]
  cases b <;> rfl

theorem dataByte_append_ofBool (b : Byte) (p : Bool) : dataByte (b ++ BitVec.ofBool p) = b :=
  BitVec.extractLsb'_append_eq_left

theorem dataByte_append_parityBit (w : Word9) : dataByte w ++ BitVec.ofBool (parityBit w) = w := by
  refine BitVec.eq_of_getLsbD_eq fun i hi => ?_
  rw [BitVec.getLsbD_append, dataByte, BitVec.getLsbD_extractLsb', parityBit]
  cases i with
  | zero => simp
  | succ i => simp [show i < 8 by omega, Nat.add_comm 1]

/-- A word passes exactly when its parity bit is the one that R83 computes from the data byte. -/
theorem parityOk_append_ofBool (b : Byte) (p : Bool) :
    parityOk (b ++ BitVec.ofBool p) = true ↔ p = (popcount b % 2 == 0) := by
  rw [parityOk_iff, popcount_append_ofBool]
  cases p with
  | false => simp
  | true => simp; omega

theorem parityOk_encodeWord (b : Byte) : parityOk (encodeWord b) = true := (parityOk_append_ofBool b _).2 rfl

theorem dataByte_encodeWord (b : Byte) : dataByte (encodeWord b) = b := dataByte_append_ofBool b _

/-- A good word is the encoding of its data byte. -/
theorem encodeWord_dataByte {w : Word9} (h : parityOk w = true) : encodeWord (dataByte w) = w := by
  have hbit : parityBit w = (popcount (dataByte w) % 2 == 0) := by
    rw [← parityOk_append_ofBool, dataByte_append_parityBit, h]
  rw [encodeWord, ← hbit, dataByte_append_parityBit]

theorem joinBytes_halves (r : Raw16) : joinBytes (r.extractLsb' 8 8) (r.extractLsb' 0 8) = r :=
  (BitVec.extractLsb'_append_extractLsb'_eq_extractLsb' rfl).trans BitVec.extractLsb'_eq_self

theorem joinWords_halves (f : Frame18) : joinWords (f.extractLsb' 9 9) (f.extractLsb' 0 9) = f :=
  (BitVec.extractLsb'_append_extractLsb'_eq_extractLsb' rfl).trans BitVec.extractLsb'_eq_self

theorem encodeFrame_joinBytes (h l : Byte) :
    encodeFrame (joinBytes h l) = joinWords (encodeWord h) (encodeWord l) :=
  congrArg₂ (fun h l => joinWords (encodeWord h) (encodeWord l)) BitVec.extractLsb'_append_eq_left
    BitVec.extractLsb'_append_eq_right

theorem joinWords_inj {v0 v1 w0 w1 : Word9} (h : joinWords v0 v1 = joinWords w0 w1) : v0 = w0 ∧ v1 = w1 := by
  have hupper := congrArg (BitVec.extractLsb' 9 9) h
  have hlower := congrArg (BitVec.extractLsb' 0 9) h
  rw [joinWords, joinWords, BitVec.extractLsb'_append_eq_left, BitVec.extractLsb'_append_eq_left] at hupper
  rw [joinWords, joinWords, BitVec.extractLsb'_append_eq_right, BitVec.extractLsb'_append_eq_right] at hlower
  exact ⟨hupper, hlower⟩

/-- The two words of a frame that ENC gives carry the raw value. -/
theorem eq_joinBytes_of_encodeFrame {r : Raw16} {w0 w1 : Word9} (h : encodeFrame r = joinWords w0 w1) :
    r = joinBytes (dataByte w0) (dataByte w1) := by
  obtain ⟨rfl, rfl⟩ := joinWords_inj h
  rw [dataByte_encodeWord, dataByte_encodeWord, joinBytes_halves]

/-- Settles O21: the words of `ENC(r)` are good and carry `r`; two good words are the encoding of the bytes they carry,
and of nothing else. -/
theorem validFramesAreEncodings : Obligations.ValidFramesAreEncodings := by
  refine ⟨fun r => ⟨_, _, rfl, parityOk_encodeWord _, parityOk_encodeWord _, (eq_joinBytes_of_encodeFrame rfl).symm⟩,
    fun w0 w1 h0 h1 => ⟨joinBytes (dataByte w0) (dataByte w1), ?_, fun r => eq_joinBytes_of_encodeFrame⟩⟩
  dsimp only
  rw [encodeFrame_joinBytes, encodeWord_dataByte h0, encodeWord_dataByte h1]

/-! ### The three ways a complete word goes on, by its parity and its number (R151) -/

theorem wordchk_of_badParity {w : Word9} (h : parityOk w = false) : wordchk w s = s.raise .parityError :=
  if_neg (by simp [h])

theorem wordchk_firstWord {w : Word9} (h : parityOk w = true) (hw : s.nword = 0) :
    wordchk w s = { s with byteHi := dataByte w, nword := 1, phase := .cellLo, cnt := 0 } :=
  (if_pos h).trans (if_pos hw)

theorem wordchk_secondWord {w : Word9} (h : parityOk w = true) (hw : s.nword = 1) :
    wordchk w s = frame (dataByte w) s :=
  (if_pos h).trans (if_neg (by simp [hw]))

/-! ### The frame as the delivery of its bits (R84, R151, R153; log 5) -/

theorem bitsMsb_append {m n : Nat} (v : BitVec m) (w : BitVec n) : bitsMsb (v ++ w) = bitsMsb v ++ bitsMsb w := by
  rw [bitsMsb, List.range_add, List.map_append, List.map_map]
  refine congrArg₂ (· ++ ·) (List.map_congr_left fun i hi => ?_) (List.map_congr_left fun i _ => ?_)
  · rw [BitVec.getMsbD_append, if_neg (Nat.not_le.2 (List.mem_range.1 hi))]
  · simp [BitVec.getMsbD_append]

/-- The second word is delivered to what the check of the first one leaves. -/
theorem deliverBits_joinWords (w0 w1 : Word9) (hs : InCells s) (hn : s.nbits = 0) :
    deliverBits (bitsMsb (joinWords w0 w1)) s =
      deliverBits (bitsMsb w1) (wordchk w0 { s with sh := w0, phase := .cellLo, cnt := 0 }) := by
  rw [joinWords, bitsMsb_append, deliverBits_append, deliverBits_bitsMsb w0 hs hn]

/-- Bad parity in word 0 ends the read, and word 1 is not received (R151(c)). -/
theorem deliverFrame_badFirst {w0 w1 : Word9} (hs : InCells s) (hn : s.nbits = 0) (h0 : parityOk w0 = false) :
    deliverBits (bitsMsb (joinWords w0 w1)) s = { s with sh := w0 }.raise .parityError := by
  rw [deliverBits_joinWords w0 w1 hs hn, wordchk_of_badParity h0, deliverBits_of_not_inCells (by simp [InCells])]
  rfl

/-- A good first word is left behind by its data byte, and the second word is checked. -/
theorem deliverFrame_goodFirst {w0 w1 : Word9} (hs : InCells s) (hn : s.nbits = 0) (hw : s.nword = 0)
    (h0 : parityOk w0 = true) :
    deliverBits (bitsMsb (joinWords w0 w1)) s =
      wordchk w1 { s with sh := w1, byteHi := dataByte w0, nword := 1, phase := .cellLo, cnt := 0 } := by
  rw [deliverBits_joinWords w0 w1 hs hn,
    wordchk_firstWord (s := { s with sh := w0, phase := .cellLo, cnt := 0 }) h0 hw]
  exact deliverBits_bitsMsb w1 (.inr (.inl rfl)) hn

theorem deliverFrame_badSecond {w0 w1 : Word9} (hs : InCells s) (hn : s.nbits = 0) (hw : s.nword = 0)
    (h0 : parityOk w0 = true) (h1 : parityOk w1 = false) :
    deliverBits (bitsMsb (joinWords w0 w1)) s =
      { s with sh := w1, byteHi := dataByte w0, nword := 1 }.raise .parityError := by
  rw [deliverFrame_goodFirst hs hn hw h0, wordchk_of_badParity h1]
  rfl

theorem deliverFrame_good {w0 w1 : Word9} (hs : InCells s) (hn : s.nbits = 0) (hw : s.nword = 0)
    (h0 : parityOk w0 = true) (h1 : parityOk w1 = true) :
    deliverBits (bitsMsb (joinWords w0 w1)) s =
      convert (joinBytes (dataByte w0) (dataByte w1))
        { s with
          sh := w1, byteHi := dataByte w0, nword := 1, raw := joinBytes (dataByte w0) (dataByte w1),
          phase := .cellLo, cnt := 0 } := by
  rw [deliverFrame_goodFirst hs hn hw h0, wordchk_secondWord h1 rfl]
  rfl

/-- Settles O60, by the parity of the first word and then of the second. -/
theorem frameRowChecksBothWords : Obligations.FrameRowChecksBothWords := by
  refine ⟨joinWords_halves, fun _ _ => ⟨_, rfl⟩, fun s w0 w1 => ⟨fun hs => ?_, fun hs hn hw =>
    ⟨fun h0 => ?_, fun h0 h1 => ?_, fun h0 h1 => ?_⟩⟩⟩
  · exact congrArg Host.Outcome.next (deliverBits_of_not_inCells hs _)
  · exact congrArg Host.Outcome.next (deliverFrame_badFirst hs hn h0)
  · exact congrArg Host.Outcome.next (deliverFrame_badSecond hs hn hw h0 h1)
  · exact congrArg Host.Outcome.next (deliverFrame_good hs hn hw h0 h1)

/-- Settles O37: the words of `ENC(r)` are good and carry the bytes of `r`. -/
theorem frameRowYieldsRaw : Obligations.FrameRowYieldsRaw := by
  intro s r hs hn hw
  refine congrArg Host.Outcome.next ?_
  rw [encodeFrame, deliverFrame_good hs hn hw (parityOk_encodeWord _) (parityOk_encodeWord _), dataByte_encodeWord,
    dataByte_encodeWord, joinBytes_halves, convert_eq, endRead_eq, ← hn]

/-! ### What the registers hold between bits (R154) -/

theorem inCells_of_deliverBits {l : List Bool} (h : InCells (deliverBits l s)) : InCells s := by
  by_contra hs
  rw [deliverBits_of_not_inCells hs] at h
  exact hs h

/-- The lower bits of `SH` are the last bits shifted in (R150). -/
theorem getLsbD_foldl_shiftIn_of_lt {l : List Bool} {j : Nat} (hj : j < l.length) (h9 : j < 9) (sh : Word9) :
    (l.foldl shiftIn sh).getLsbD j = l.getD (l.length - 1 - j) false := by
  have hback : l.length - 1 - j < l.length := by omega
  rw [getLsbD_foldl_shiftIn l sh h9, List.getElem?_reverse hj, List.getElem?_eq_getElem hback,
    List.getD_eq_getElem l false hback, Option.getD_some]

/-- The bits of an incomplete word are counted and stand in the lower part of `SH`; the word before is left alone. -/
theorem deliverBits_partialWord {l : List Bool} (hs : InCells s) (hn : s.nbits = 0) (hl : l.length ≤ 8) :
    (deliverBits l s).nword = s.nword ∧ (deliverBits l s).byteHi = s.byteHi ∧ (deliverBits l s).nbits = l.length ∧
      ∀ j < l.length, (deliverBits l s).sh.getLsbD j = l.getD (l.length - 1 - j) false := by
  by_cases hnil : l = []
  · subst hnil
    exact ⟨rfl, rfl, hn, fun j hj => absurd hj (Nat.not_lt_zero j)⟩
  · rw [deliverBits_incomplete hnil hs (by omega), hn, Nat.zero_add]
    exact ⟨rfl, rfl, rfl, fun j hj => getLsbD_foldl_shiftIn_of_lt hj (by omega) s.sh⟩

/-- The first word of a read that goes on has passed, and its data byte is in `BYTE_HI`. -/
theorem deliverBits_firstWord {l : List Bool} (hn : s.nbits = 0) (hw : s.nword = 0) (hl : l.length = 9)
    (h : InCells (deliverBits l s)) :
    deliverBits l s =
      { s with
        sh := l.foldl shiftIn s.sh, byteHi := dataByte (l.foldl shiftIn s.sh), nword := 1, phase := .cellLo,
        cnt := 0 } := by
  have hnine := deliverBits_nine (inCells_of_deliverBits h) hn hl
  rw [hnine] at h ⊢
  rcases wordchk_cases (l.foldl shiftIn s.sh) { s with sh := l.foldl shiftIn s.sh, phase := .cellLo, cnt := 0 } with
    ⟨-, e⟩ | ⟨-, -, e⟩ | ⟨-, hword, -⟩
  · simp [e, InCells] at h
  · rw [e]
  · simp [hw] at hword

/-- The data byte of a word of nine bits is its first eight, the first one most significant (R83). -/
theorem getMsbD_dataByte_foldl_shiftIn {l : List Bool} (hl : l.length = 9) (sh : Word9) {j : Nat} (hj : j < 8) :
    (dataByte (l.foldl shiftIn sh)).getMsbD j = l.getD j false := by
  have hfirst : 8 - 1 - j < 8 := by omega
  have hbit : 1 + (8 - 1 - j) = 8 - j := by omega
  have hback : l.length - 1 - (8 - j) = j := by omega
  rw [BitVec.getMsbD_eq_getLsbD, dataByte, BitVec.getLsbD_extractLsb', hbit,
    getLsbD_foldl_shiftIn_of_lt (by omega) (by omega), hback, decide_eq_true hj, decide_eq_true hfirst,
    Bool.true_and, Bool.true_and]

/-- Settles O38: up to eight bits are a part of word 0; from nine on, word 0 has passed and the rest is a part of
word 1. -/
theorem bitsFillRegisters : Obligations.BitsFillRegisters := by
  intro s bits hs hn hw hlen h
  rcases Nat.lt_or_ge bits.length 9 with hlt | hge
  · obtain ⟨hword, -, hbits, hsh⟩ := deliverBits_partialWord hs hn (Nat.le_of_lt_succ hlt)
    rw [Nat.div_eq_of_lt hlt, Nat.mod_eq_of_lt hlt]
    exact ⟨by rw [hword, hw]; rfl, hbits, hsh, fun h01 => absurd h01 (by decide)⟩
  · obtain ⟨first, rest, rfl, hfirst⟩ : ∃ first rest : List Bool, bits = first ++ rest ∧ first.length = 9 :=
      ⟨bits.take 9, bits.drop 9, (List.take_append_drop 9 bits).symm, List.length_take_of_le hge⟩
    rw [List.length_append, hfirst] at hlen
    rw [deliverBits_append] at h
    have hpass := deliverBits_firstWord hn hw hfirst (inCells_of_deliverBits h)
    have hnbits : (deliverBits first s).nbits = 0 := by rw [hpass]; exact hn
    have hnword : (deliverBits first s).nword = 1 := by rw [hpass]
    have hbyteHi : (deliverBits first s).byteHi = dataByte (first.foldl shiftIn s.sh) := by rw [hpass]
    have hrest : rest.length ≤ 8 := by omega
    obtain ⟨hword, hbyte, hbits, hsh⟩ := deliverBits_partialWord (inCells_of_deliverBits h) hnbits hrest
    rw [deliverBits_append, List.length_append, hfirst, show (9 + rest.length) / 9 = 1 by omega,
      show (9 + rest.length) % 9 = rest.length by omega]
    refine ⟨by rw [hword, hnword]; rfl, hbits, fun j hj => ?_, fun _ j hj => ?_⟩
    · rw [hsh j hj, List.getD_append_right _ _ _ _ (by omega)]
      congr 1
      omega
    · rw [hbyte, hbyteHi, getMsbD_dataByte_foldl_shiftIn hfirst s.sh hj, List.getD_append _ _ _ _ (by omega)]

end Sys2Proof.Machine
end

section
/-! PROOFS. The converter (`spec/43_temp_convert.md`): the rules of CONVERT, RANGECHK and FINISH, the range as a range of
raw values (R174), and the reference frame on the line (R96, R175, R248). -/

namespace Sys2Proof.Machine

variable {s : State}

/-! ### The rules of CONVERT, RANGECHK and FINISH (R170 to R172) -/

/-- Settles O22: CONVERT writes the numerator and hands it to RANGECHK in the same tick. -/
theorem convertFollowsRule : Obligations.ConvertFollowsRule := fun r s => ⟨rfl, convert r s, rfl⟩

theorem rangechk_of_inRange {tn : Int} (h : TempInRange s.cfg.profile tn) : rangechk tn s = finish s := if_pos h

theorem rangechk_of_outOfRange {tn : Int} (h : ¬TempInRange s.cfg.profile tn) :
    rangechk tn s = s.raise .temperatureOutOfRange := if_neg h

/-- Settles O23, by the two outcomes of the check. -/
theorem rangechkFollowsRule : Obligations.RangechkFollowsRule := by
  intro tn s
  refine ⟨?_, rangechk tn s, rfl⟩
  by_cases h : TempInRange s.cfg.profile tn
  · rw [if_pos h]
    exact congrArg Host.Outcome.next (rangechk_of_inRange h)
  · rw [if_neg h]
    exact congrArg Host.Outcome.next (rangechk_of_outOfRange h)

/-- When a read has ended the supply is off, in both constructions (R35, R172, R204). -/
theorem vddEn_endRead (s : State) (st : Status) : (s.endRead st).vddEn = false := by
  rw [State.vddEn, endRead_cfg, endRead_pwr]
  cases s.cfg.powerCtrl <;> rfl

/-- Settles O25: FINISH is the end of a read with OK, and the flags are those of an idle machine with that status. -/
theorem finishFollowsRule : Obligations.FinishFollowsRule := fun s =>
  ⟨finish s, rfl, endRead_eq s .ok, rfl, rfl, rfl, vddEn_endRead s .ok⟩

/-! ### The range as a range of raw values (R174) -/

/-- `ceil(x / n) <= r`, the ceiling written by the division that rounds down. -/
theorem neg_neg_ediv_le_iff {x n r : Int} (hn : 0 < n) : -(-x / n) ≤ r ↔ x ≤ r * n := by
  rw [neg_le, Int.le_ediv_iff_mul_le hn, neg_mul, neg_le_neg_iff]

theorem tempInRange_iff_mul {p : Profile} {r : Raw16} :
    TempInRange p (tempOf p r) ↔
      (p.tmin + p.offset) * p.scaleDen ≤ r.toNat * p.scaleNum ∧
        (r.toNat : Int) * p.scaleNum ≤ (p.tmax + p.offset) * p.scaleDen := by
  rw [TempInRange, tempOf, add_mul, add_mul, le_sub_iff_add_le, sub_le_iff_le_add]

/-- The clamps are void: every raw value lies between 0 and 65535. -/
theorem tempInRange_iff_raw {p : Profile} (r : Raw16) (hp : 1 ≤ p.scaleNum) :
    TempInRange p (tempOf p r) ↔
      max 0 (-((-((p.tmin + p.offset) * p.scaleDen)) / (p.scaleNum : Int))) ≤ (r.toNat : Int) ∧
      (r.toNat : Int) ≤ min 65535 ((p.tmax + p.offset) * p.scaleDen / (p.scaleNum : Int)) := by
  have hn : (0 : Int) < p.scaleNum := Int.natCast_pos.2 hp
  have hmin : (0 : Int) ≤ r.toNat := Int.natCast_nonneg _
  have hmax : (r.toNat : Int) ≤ 65535 := Int.ofNat_le.2 (Nat.le_of_lt_succ r.isLt)
  rw [tempInRange_iff_mul, max_le_iff, le_min_iff, neg_neg_ediv_le_iff hn, Int.le_ediv_iff_mul_le hn,
    and_iff_right hmin, and_iff_right hmax]

/-- Settles O24; the bounds of the illustrated constants are computed from the general ones. -/
theorem rangeFormsAgree : Obligations.RangeFormsAgree := by
  refine ⟨fun p r => tempInRange_iff_raw r, fun r => ?_⟩
  rw [tempInRange_iff_raw r (by decide)]
  simp [Profile.ref306]

/-! ### Cells in reference shape (R96) -/

/-- The strobe `t` is short enough for the low run of a reference cell, and its two shapes are a 0 and a 1 (R96). -/
structure ReferenceShapes (c : Cfg) (t : Nat) : Prop where
  low_fits : t + 1 ≤ c.edgeWaitMax
  zero : classify c.profile t t = .zero
  one : classify c.profile (2 * t) t = .one

/-- The high duration of the reference shape of a bit (R96). -/
def refHigh (t : Nat) (b : Bool) : Nat := if b then 2 * t else t

theorem bitTrace_eq (t : Nat) (b : Bool) : bitTrace t b = cellTrace t (refHigh t b) := rfl

theorem classify_refHigh {c : Cfg} {t : Nat} (h : ReferenceShapes c t) (b : Bool) :
    classify c.profile (refHigh t b) t = if b then .one else .zero := by
  cases b
  · exact h.zero
  · exact h.one

/-- The first low sample of a data cell has been taken, the strobe being `t` (R130). -/
structure CellBegun (c : Cfg) (t : Nat) (u : State) : Prop where
  phase : u.phase = .cellLo
  cnt : u.cnt = 0
  strobe : u.t = t
  cfg : u.cfg = c

/-- The phase and the count of the cell that has ended have no part in what its bit leads to (R150). -/
theorem shift_of_phase_cnt (b : Bool) (s : State) (p : Phase) (n : Nat) :
    shift b { s with phase := p, cnt := n } = shift b s := by
  unfold shift wordchk frame convert rangechk finish
  dsimp only
  split_ifs <;> rfl

/-- A delivered bit that does not end the read begins the next cell. -/
theorem shift_cellBegun {c : Cfg} {t : Nat} {u : State} {b : Bool} (h : CellBegun c t u) (hin : InCells (shift b u)) :
    CellBegun c t (shift b u) := by
  obtain ⟨-, -, ht, hc⟩ := h
  rcases shift_outcomes b u with ⟨-, e⟩ | ⟨-, -, e⟩ | ⟨-, -, -, e⟩ | ⟨-, -, -, e⟩ <;> rw [e] at hin ⊢
  · exact ⟨rfl, rfl, ht, hc⟩
  · simp [InCells] at hin
  · exact ⟨rfl, rfl, ht, hc⟩
  · simp [InCells] at hin

/-- A reference cell leaves its high duration in `CNT`, the bit being delivered by the sample that follows (R133(b)). -/
theorem feed_bitTrace {c : Cfg} {t : Nat} {u : State} (hc : ReferenceShapes c t)
    (hedge : tick (lineInput false) s = u) (hu : CellBegun c t u) (b : Bool) :
    feed (bitTrace t b) s = { u with phase := .cellHi, cnt := refHigh t b } := by
  obtain ⟨hphase, hcnt, rfl, rfl⟩ := hu
  have hvalid : classify u.cfg.profile (refHigh u.t b) u.t ≠ .invalid := by
    rw [classify_refHigh hc]
    cases b <;> decide
  exact feed_dataCell_valid hedge hphase hcnt hc.low_fits hvalid

/-- The edge that follows a reference cell delivers its bit. -/
theorem tick_after_bitTrace {c : Cfg} {t : Nat} {u : State} (hc : ReferenceShapes c t) (hu : CellBegun c t u)
    (b : Bool) :
    tick (lineInput false) { u with phase := .cellHi, cnt := refHigh t b } = shift b u := by
  obtain ⟨-, -, rfl, rfl⟩ := hu
  rw [tick_line_cellHi rfl,
    cellhi_false_of_classify (s := { u with phase := .cellHi, cnt := refHigh u.t b }) (classify_refHigh hc b),
    shift_of_phase_cnt]

theorem bitsTrace_append (t : Nat) (l l' : List Bool) : bitsTrace t (l ++ l') = bitsTrace t l ++ bitsTrace t l' := by
  simp [bitsTrace]

theorem bitsTrace_singleton (t : Nat) (b : Bool) : bitsTrace t [b] = bitTrace t b := by
  simp [bitsTrace]

theorem deliverBits_concat {l : List Bool} {u : State} (h : InCells (deliverBits l u)) (b : Bool) :
    deliverBits (l ++ [b]) u = shift b (deliverBits l u) := by
  rw [deliverBits_append, deliverBits_cons, deliverBits_nil, deliverBit_of_inCells h]

theorem deliverBits_cellBegun {c : Cfg} {t : Nat} {l : List Bool} {u : State} (hu : CellBegun c t u)
    (hin : InCells (deliverBits l u)) : CellBegun c t (deliverBits l u) := by
  induction l using List.reverseRecOn with
  | nil => exact hu
  | append_singleton l b ih =>
    have hl : InCells (deliverBits l u) := by
      rw [deliverBits_append] at hin
      exact inCells_of_deliverBits hin
    rw [deliverBits_concat hl] at hin ⊢
    exact shift_cellBegun (ih hl) hin

/-- Reference cells, the last one still unfinished: the bits before it have been delivered (R135). -/
theorem feed_bitsTrace_concat {c : Cfg} {t : Nat} {l : List Bool} {u : State} (hc : ReferenceShapes c t)
    (hedge : tick (lineInput false) s = u) (hu : CellBegun c t u) (hin : InCells (deliverBits l u)) (b : Bool) :
    feed (bitsTrace t (l ++ [b])) s = { deliverBits l u with phase := .cellHi, cnt := refHigh t b } := by
  induction l using List.reverseRecOn generalizing b with
  | nil => rw [List.nil_append, bitsTrace_singleton, feed_bitTrace hc hedge hu, deliverBits_nil]
  | append_singleton l b' ih =>
    have hl : InCells (deliverBits l u) := by
      rw [deliverBits_append] at hin
      exact inCells_of_deliverBits hin
    have hnext : tick (lineInput false) (feed (bitsTrace t (l ++ [b'])) s) = deliverBits (l ++ [b']) u := by
      rw [ih hl, tick_after_bitTrace hc (deliverBits_cellBegun hu hl), deliverBits_concat hl]
    rw [bitsTrace_append, feed_append, bitsTrace_singleton, feed_bitTrace hc hnext (deliverBits_cellBegun hu hin)]

/-- Reference cells and the edge that ends the last one: all their bits have been delivered. -/
theorem feed_bitsTrace_endTrace {c : Cfg} {t : Nat} {l : List Bool} {u : State} (hc : ReferenceShapes c t)
    (hedge : tick (lineInput false) s = u) (hu : CellBegun c t u) (hin : InCells (deliverBits l u)) (b : Bool) :
    feed (bitsTrace t (l ++ [b]) ++ endTrace) s = deliverBits (l ++ [b]) u := by
  rw [feed_append, feed_bitsTrace_concat hc hedge hu hin, deliverBits_concat hin]
  exact tick_after_bitTrace hc (deliverBits_cellBegun hu hin) b

/-! ### The bits of a reference frame (R84, R155) -/

/-- `ENC(r)` but for its last bit: word 0 and the data byte of word 1, in arrival order. -/
def frameBitsBeforeLast (r : Raw16) : List Bool :=
  bitsMsb (encodeWord (r.extractLsb' 8 8)) ++ bitsMsb (r.extractLsb' 0 8)

/-- The last bit of `ENC(r)`, the parity bit of word 1. -/
def frameLastBit (r : Raw16) : Bool := popcount (r.extractLsb' 0 8) % 2 == 0

theorem bitsMsb_ofBool (b : Bool) : bitsMsb (BitVec.ofBool b) = [b] := by
  cases b <;> rfl

theorem bitsMsb_encodeWord (b : Byte) : bitsMsb (encodeWord b) = bitsMsb b ++ [popcount b % 2 == 0] := by
  rw [encodeWord, bitsMsb_append, bitsMsb_ofBool]

theorem bitsMsb_encodeFrame (r : Raw16) : bitsMsb (encodeFrame r) = frameBitsBeforeLast r ++ [frameLastBit r] := by
  rw [encodeFrame, joinWords, bitsMsb_append, bitsMsb_encodeWord (r.extractLsb' 0 8), ← List.append_assoc]
  rfl

/-- A reference frame is the start cell, the cells of `ENC(r)` and END (R96). -/
theorem frameTrace_eq (t : Nat) (r : Raw16) :
    frameTrace t r = cellTrace t t ++ (bitsTrace t (bitsMsb (encodeFrame r)) ++ endTrace) := by
  rw [frameTrace, wordTrace, wordTrace, encodeFrame, joinWords, bitsMsb_append, bitsTrace_append]
  simp only [List.append_assoc]

theorem dropLast_frameTrace (zs : List Bool) (t : Nat) (r : Raw16) :
    (zs ++ frameTrace t r).dropLast = zs ++ cellTrace t t ++ bitsTrace t (bitsMsb (encodeFrame r)) := by
  rw [frameTrace_eq, ← List.append_assoc, ← List.append_assoc]
  exact List.dropLast_concat

/-- Seventeen bits of `ENC(r)`: word 0 has passed, and eight bits of word 1 are in `SH`. -/
theorem deliver_frameBitsBeforeLast (r : Raw16) (hs : InCells s) (hn : s.nbits = 0) (hw : s.nword = 0) :
    deliverBits (frameBitsBeforeLast r) s =
      { s with
        sh := (bitsMsb (r.extractLsb' 0 8)).foldl shiftIn (encodeWord (r.extractLsb' 8 8)), nbits := 8, nword := 1,
        byteHi := r.extractLsb' 8 8, phase := .cellLo, cnt := 0 } := by
  have hne : bitsMsb (r.extractLsb' 0 8) ≠ [] := List.ne_nil_of_length_pos (by simp [length_bitsMsb])
  rw [frameBitsBeforeLast, deliverBits_append, deliverBits_bitsMsb _ hs hn,
    wordchk_firstWord (s := { s with sh := _, phase := .cellLo, cnt := 0 }) (parityOk_encodeWord _) hw,
    dataByte_encodeWord, deliverBits_incomplete hne (.inr (.inl rfl)) (by simp [hn, length_bitsMsb])]
  simp [hn, length_bitsMsb]

/-- All bits of `ENC(r)`: the read has ended with `r` and its conversion. -/
theorem deliver_encodeFrame (r : Raw16) (hs : InCells s) (hn : s.nbits = 0) (hw : s.nword = 0) :
    deliverBits (bitsMsb (encodeFrame r)) s =
      { s with
        sh := encodeWord (r.extractLsb' 0 8), nbits := 0, nword := 1, byteHi := r.extractLsb' 8 8, raw := r,
        tempNum := tempOf s.cfg.profile r,
        status := if TempInRange s.cfg.profile (tempOf s.cfg.profile r) then .ok else .tempOutOfRange,
        phase := .idle, cnt := 0, pwr := if s.cfg.powerCtrl then false else s.pwr } := by
  have hrow := Host.Outcome.next.inj (frameRowYieldsRaw s r hs hn hw)
  rw [hrow]

/-! ### The length of a reference frame (R248) -/

theorem length_cellTrace (lo hi : Nat) : (cellTrace lo hi).length = lo + hi + 2 := by
  simp [cellTrace, low, high]
  omega

/-- A 1 takes `t` samples more than a 0. -/
theorem length_bitsTrace (t : Nat) (l : List Bool) :
    (bitsTrace t l).length = l.length * (2 * t + 2) + l.count true * t := by
  induction l with
  | nil => simp [bitsTrace]
  | cons b l ih =>
    rw [← List.singleton_append, bitsTrace_append, bitsTrace_singleton, List.length_append, ih, bitTrace_eq,
      length_cellTrace]
    cases b <;> simp [refHigh] <;> ring

theorem reverse_bitsMsb {n : Nat} (v : BitVec n) : (bitsMsb v).reverse = (List.range n).map v.getLsbD := by
  refine List.ext_getElem (by simp [length_bitsMsb]) fun i hi _ => ?_
  have hin : i < n := by simpa [length_bitsMsb] using hi
  have hbit := getElem?_reverse_bitsMsb v hin
  rw [List.getElem?_eq_getElem hi, Option.some.injEq] at hbit
  simp [hbit]

theorem count_true_bitsMsb {n : Nat} (v : BitVec n) : (bitsMsb v).count true = popcount v := by
  rw [← List.count_reverse, reverse_bitsMsb, List.count, List.countP_map, popcount]
  congr 1
  funext i
  simp

theorem popcount_le {n : Nat} (v : BitVec n) : popcount v ≤ n := by
  rw [popcount]
  exact List.countP_le_length.trans_eq List.length_range

theorem length_frameTrace (t : Nat) (r : Raw16) :
    (frameTrace t r).length =
      (2 * t + 2) + (18 - popcount (encodeFrame r)) * (2 * t + 2) + popcount (encodeFrame r) * (3 * t + 2) + 1 := by
  have hend : endTrace.length = 1 := rfl
  obtain ⟨zeros, hzeros⟩ := Nat.exists_eq_add_of_le (popcount_le (encodeFrame r))
  rw [frameTrace_eq, List.length_append, List.length_append, length_cellTrace, length_bitsTrace, length_bitsMsb,
    count_true_bitsMsb, hend]
  generalize popcount (encodeFrame r) = ones at hzeros ⊢
  rw [show 18 - ones = zeros by omega, hzeros]
  ring

/-! ### The reference frame on the line (R175, R240) -/

/-- The idle line and the start cell leave `T = t` (R113). -/
theorem feed_idleLine_startCell (hp : s.phase = .waitStrobe) {a t : Nat} (ha : s.cnt + a < s.cfg.strobeWaitMax)
    (ht : 1 ≤ t) (hstrobe : t + 1 ≤ s.cfg.strobeMax) (hedge : t + 1 ≤ s.cfg.edgeWaitMax) :
    feed (high a ++ cellTrace t t) s = { s with t := t, phase := .startHi, cnt := t } := by
  rw [cellTrace, ← List.append_assoc, feed_append, feed_idleLine_strobe hp ha hstrobe]
  exact feed_high_measStrobe (s := { s with phase := .measStrobe, cnt := t }) rfl (Nat.ne_of_gt ht) hedge

/-- The first data cell has begun, after a strobe of `t`. -/
def State.atFirstCell (s : State) (t : Nat) : State := { s with t := t, phase := .cellLo, cnt := 0 }

theorem atFirstCell_cellBegun (s : State) (t : Nat) : CellBegun s.cfg t (s.atFirstCell t) := ⟨rfl, rfl, rfl, rfl⟩

theorem atFirstCell_inCells (s : State) (t : Nat) : InCells (s.atFirstCell t) := .inr (.inl rfl)

/-- Settles O42: after the start cell the frame is the cells of `ENC(r)`, whose bits are delivered one cell late, so the
samples before END have delivered seventeen of them. -/
theorem frameTraceDecodes : Obligations.FrameTraceDecodes := by
  intro s a t r hc hp hcnt hn hw ha ht hstrobe hedge hzero hone
  have hshapes : ReferenceShapes s.cfg t := ⟨hedge, hzero, hone⟩
  have hbegun := atFirstCell_cellBegun s t
  have hcells := atFirstCell_inCells s t
  have hstart := feed_idleLine_startCell hp (show s.cnt + a < s.cfg.strobeWaitMax by omega) ht hstrobe hedge
  have hfirst : tick (lineInput false) { s with t := t, phase := .startHi, cnt := t } = s.atFirstCell t :=
    tick_line_startHi rfl false
  have hbefore := deliver_frameBitsBeforeLast r hcells hn hw
  have hgoes : InCells (deliverBits (frameBitsBeforeLast r) (s.atFirstCell t)) := hbefore ▸ .inr (.inl rfl)
  have hbusy := feed_bitsTrace_concat hshapes hfirst hbegun hgoes (frameLastBit r)
  have hdone := feed_bitsTrace_endTrace hshapes hfirst hbegun hgoes (frameLastBit r)
  rw [← bitsMsb_encodeFrame, hbefore, ← hstart, ← feed_append, ← dropLast_frameTrace] at hbusy
  rw [← bitsMsb_encodeFrame, deliver_encodeFrame r hcells hn hw, ← hstart, ← feed_append, List.append_assoc,
    ← frameTrace_eq] at hdone
  refine ⟨runsTo_of_feed_eq hc hdone, ⟨_, runsTo_of_feed_eq hc hbusy, rfl, rfl, rfl, rfl⟩, ?_⟩
  rw [List.length_append, length_frameTrace, high, List.length_replicate]
  omega

end Sys2Proof.Machine
end

section
/-! PROOFS. The power sequencer (`spec/44_vdd_sequencer.md`): the rules of PWRON, SETTLE and PWROFF (R190 to R193), and
the order of supply, settle delay and first sample (R194). -/

namespace Sys2Proof.Machine

variable {s : State}

/-! ### The rules of PWRON, SETTLE and PWROFF (R190 to R193) -/

theorem pwron_of_powerCtrl (h : s.cfg.powerCtrl = true) :
    pwron s = { s with pwr := true, cnt := 0, phase := .settle } := by
  simp [pwron, State.enter, State.setPwr, h]

theorem pwron_void (h : s.cfg.powerCtrl = false) : pwron s = s := by simp [pwron, h]

theorem pwroff_of_powerCtrl (h : s.cfg.powerCtrl = true) : pwroff s = { s with pwr := false } := by
  simp [pwroff, State.setPwr, h]

theorem pwroff_void (h : s.cfg.powerCtrl = false) : pwroff s = s := by simp [pwroff, State.setPwr, h]

/-- Settles O12, by the construction mode: without `POWER_CTRL` each of the three is void, and with it SETTLE ends or
goes on counting. -/
theorem powerSequencerFollowsRules : Obligations.PowerSequencerFollowsRules := by
  intro s
  refine ⟨congrArg Host.Outcome.next ?_, congrArg Host.Outcome.next ?_, fun _ _ => congrArg Host.Outcome.next ?_⟩
  · cases h : s.cfg.powerCtrl with
    | true => exact pwron_of_powerCtrl h
    | false => exact pwron_void h
  · cases h : s.cfg.powerCtrl with
    | true => exact pwroff_of_powerCtrl h
    | false => exact pwroff_void h
  · rcases settle_cases s with ⟨hpower, e⟩ | ⟨hpower, hcnt, e⟩ | ⟨hpower, hcnt, e⟩ <;> rw [e, hpower]
    · rfl
    · rw [if_pos rfl, if_pos hcnt]
      rfl
    · rw [if_pos rfl, if_neg hcnt]
      rfl

/-! ### The settle delay (R192) -/

theorem settle_counts (hpower : s.cfg.powerCtrl = true) (hcnt : s.cnt + 1 < s.cfg.settleTicks) :
    settle s = s.setCnt (s.cnt + 1) := by
  rw [settle, if_pos hpower, if_neg (by omega)]

theorem settle_ends (hpower : s.cfg.powerCtrl = true) (hcnt : s.cnt + 1 = s.cfg.settleTicks) :
    settle s = s.enter .waitStrobe := by
  rw [settle, if_pos hpower, if_pos (by omega)]

theorem ticks_cons (i : Input) (ins : List Input) (s : State) : ticks (i :: ins) s = ticks ins (tick i s) := rfl

/-- While the delay goes on the ticks are only counted, whatever `start` and the line do. -/
theorem ticks_settle_counts {ins : List Input} (hp : s.phase = .settle) (hpower : s.cfg.powerCtrl = true)
    (hrst : ∀ i ∈ ins, i.rst = false) (hcnt : s.cnt + ins.length < s.cfg.settleTicks) :
    ticks ins s = s.setCnt (s.cnt + ins.length) := by
  induction ins generalizing s with
  | nil => rfl
  | cons i ins ih =>
    obtain ⟨hi, hins⟩ := List.forall_mem_cons.1 hrst
    rw [List.length_cons] at hcnt
    rw [ticks_cons, tick_settle hi hp, settle_counts hpower (by omega),
      ih (s := s.setCnt (s.cnt + 1)) hp hpower hins (by simp only [setCnt_cnt, setCnt_cfg]; omega),
      setCnt_setCnt, setCnt_cnt, List.length_cons, Nat.add_right_comm, Nat.add_assoc]

theorem ticks_concat (ins : List Input) (i : Input) (s : State) : ticks (ins ++ [i]) s = tick i (ticks ins s) :=
  List.foldl_concat ..

/-- The tick that completes the delay leads to WAIT_STROBE. -/
theorem ticks_settle_ends {ins : List Input} (hp : s.phase = .settle) (hpower : s.cfg.powerCtrl = true)
    (hrst : ∀ i ∈ ins, i.rst = false) (hbefore : s.cnt < s.cfg.settleTicks)
    (hcnt : s.cnt + ins.length = s.cfg.settleTicks) : ticks ins s = s.enter .waitStrobe := by
  rcases ins.eq_nil_or_concat' with rfl | ⟨earlier, last, rfl⟩
  · exact absurd hcnt (Nat.ne_of_lt hbefore)
  · obtain ⟨hearlier, hlast⟩ := List.forall_mem_append.1 hrst
    rw [List.length_append, List.length_singleton, ← Nat.add_assoc] at hcnt
    rw [ticks_concat, ticks_settle_counts hp hpower hearlier (by omega),
      tick_settle (s := s.setCnt (s.cnt + earlier.length)) (hlast last (List.mem_singleton_self last)) hp]
    exact settle_ends (s := s.setCnt (s.cnt + earlier.length)) hpower hcnt

/-! ### Supply, delay, first sample (R194) -/

theorem read_begins_settling (hpower : s.cfg.powerCtrl = true) :
    (read s).phase = .settle ∧ (read s).cnt = 0 ∧ (read s).cfg = s.cfg ∧ (read s).vddEn = true := by
  rw [read_eq, State.vddEn, hpower]
  exact ⟨rfl, rfl, rfl, rfl⟩

/-- An idle machine whose trace begins with a start runs over READ and then over the ticks that follow. -/
theorem run_read {i : Input} {ins rest : List Input} (hc : ConfigOk s.cfg) (hidle : s.phase = .idle)
    (hrst : i.rst = false) (hstart : i.start = true) (hins : s.inputs = i :: (ins ++ rest)) :
    Host.Core.run core (ins.length + 1) s = .next { ticks ins (read s) with inputs := rest } := by
  have hread : tick i s = read s := by rw [tick_idle hrst hidle, if_pos hstart]
  rw [← hread]
  exact runIsFoldOfTicks s (i :: ins) rest hc hins

/-- Settles O41: READ begins the delay at 0 with the supply on; fewer than `SETTLE_TICKS` ticks are counted, and
`SETTLE_TICKS` of them end the delay. Neither touches the supply. -/
theorem settleDelayPrecedesFirstSample : Obligations.SettleDelayPrecedesFirstSample := by
  intro s zw ins rest hc hpower hidle hrst hlen hins
  obtain ⟨hphase, hcnt, hcfg, hvdd⟩ := read_begins_settling hpower
  have hpower' : (read s).cfg.powerCtrl = true := hcfg ▸ hpower
  refine ⟨fun k hk => ?_, ?_⟩
  · have hlenk : (ins.take k).length = k := List.length_take_of_le hk.le
    have hticks : ticks (ins.take k) (read s) = (read s).setCnt k := by
      rw [ticks_settle_counts hphase hpower' (fun i hi => hrst i (List.mem_of_mem_take hi))
        (by rw [hcnt, hcfg]; omega), hcnt, hlenk, Nat.zero_add]
    have hrun := run_read (ins := ins.take k) (rest := ins.drop k ++ rest) hc hidle rfl rfl
      (by rw [hins, ← List.append_assoc, List.take_append_drop])
    rw [hticks, hlenk] at hrun
    exact ⟨_, hrun, hphase, rfl, hvdd⟩
  · have ⟨_, _, _, ⟨_, _, _, hpositive⟩, _⟩ := hc
    have hticks : ticks ins (read s) = (read s).enter .waitStrobe :=
      ticks_settle_ends hphase hpower' hrst (by rw [hcnt, hcfg]; exact hpositive hpower)
        (by rw [hcnt, hcfg, Nat.zero_add, hlen])
    have hrun := run_read hc hidle rfl rfl hins
    rw [hticks, hlen] at hrun
    exact ⟨_, hrun, rfl, rfl, hvdd, rfl⟩

end Sys2Proof.Machine
end

section
/-! PROOFS. The exceptions (`spec/60_exceptions.md`): the rule of ABORT (R204), and the cause and the record of each
exception (R200 to R206), by the ways in which a tick can end a read (`ReadEnd`). -/

namespace Sys2Proof.Machine

variable {s : State}

/-! ### ABORT (R204) -/

/-- Settles O26: ABORT is the end of a read with a code that is neither NONE nor OK, so the idle machine is `done` and
not `valid`. -/
theorem abortFollowsRule : Obligations.AbortFollowsRule := by
  intro e s
  have hdone : (s.raise e).done = true := done_iff.2 ⟨rfl, excStatus_ne_none e⟩
  have hvalid : (s.raise e).valid = false :=
    Bool.eq_false_iff.2 fun h => excStatus_ne_ok e (valid_iff.1 h).2
  refine ⟨s.raise e, rfl, rfl, ?_, ?_, rfl, hdone, hvalid, vddEn_endRead s (excStatus e)⟩
  · rw [raise_eq_endRead, endRead_eq]
    cases e <;> rfl
  · rw [raise_status]
    cases e <;> rfl

/-! ### How a tick ends a read (R31, R201 to R206) -/

/-- The registers after the last bit of a frame whose second word is `w`, before the read is ended (R153, R170). -/
def State.converted (s : State) (w : Word9) : State :=
  { s with
    sh := w, nbits := 0, raw := joinBytes s.byteHi (dataByte w)
    tempNum := tempOf s.cfg.profile (joinBytes s.byteHi (dataByte w)) }

/-- What a tick that is not reset does if it ends a read, with `zw` sampled on the line (`tick_readEnd`): `ReadTick`
kept to its ends, each with its cause. `w` stands for `SH` after the last bit. -/
inductive ReadEnd (zw : Bool) (s : State) : State → Prop
  /-- No strobe came (R112, R201). -/
  | idleLine (hphase : s.phase = .waitStrobe) (hzw : zw = true) (hcnt : s.cnt + 1 = s.cfg.strobeWaitMax) :
      ReadEnd zw s (s.endRead .timeout)
  /-- The strobe does not end (R113, R201). -/
  | stuckLow (hphase : s.phase = .measStrobe) (hzw : zw = false) (hcnt : s.cnt + 1 = s.cfg.strobeMax) :
      ReadEnd zw s (s.endRead .timeout)
  /-- The high part of the start cell does not end (R114, R201). -/
  | startHigh (hphase : s.phase = .startHi) (hzw : zw = true) (hcnt : s.cnt + 1 = s.cfg.edgeWaitMax) :
      ReadEnd zw s (s.endRead .timeout)
  /-- The low part of a data cell does not end (R130, R201). -/
  | cellLow (hphase : s.phase = .cellLo) (hzw : zw = false) (hcnt : s.cnt + 1 = s.cfg.edgeWaitMax) :
      ReadEnd zw s (s.endRead .timeout)
  /-- The strobe is one sample long (R113, R202). -/
  | shortStrobe (hphase : s.phase = .measStrobe) (hzw : zw = true) (hcnt : s.cnt = 0) :
      ReadEnd zw s (s.endRead .invalidStrobeLength)
  /-- The high part of a data cell reaches the upper bound (R133, R203). -/
  | longHigh (hphase : s.phase = .cellHi) (hzw : zw = true)
      (hbound : s.cfg.profile.upNum * s.t ≤ (s.cnt + 1) * s.cfg.profile.upDen) :
      ReadEnd zw s (s.endRead .invalidBitTiming)
  /-- The ninth bit of a word with bad parity (R151, R205). -/
  | badParity {w : Word9} (hphase : s.phase = .cellHi) (hzw : zw = false) (hnbits : s.nbits = 8)
      (hparity : parityOk w = false) : ReadEnd zw s ({ s with sh := w, nbits := 0 }.endRead .parityError)
  /-- The frame is complete and its temperature in range (R172). -/
  | finished {w : Word9} (hphase : s.phase = .cellHi) (hzw : zw = false) (hnbits : s.nbits = 8)
      (hnword : s.nword = 1) (hparity : parityOk w = true)
      (hrange : TempInRange s.cfg.profile (s.converted w).tempNum) : ReadEnd zw s ((s.converted w).endRead .ok)
  /-- The frame is complete and its temperature out of range (R171, R206). -/
  | outOfRange {w : Word9} (hphase : s.phase = .cellHi) (hzw : zw = false) (hnbits : s.nbits = 8)
      (hnword : s.nword = 1) (hparity : parityOk w = true)
      (hrange : ¬TempInRange s.cfg.profile (s.converted w).tempNum) :
      ReadEnd zw s ((s.converted w).endRead .tempOutOfRange)

theorem settle_phase_ne_idle (hp : s.phase = .settle) : (settle s).phase ≠ .idle := by
  rcases settle_cases s with ⟨-, e⟩ | ⟨-, -, e⟩ | ⟨-, -, e⟩ <;> simp [e, hp]

theorem waitstb_readEnd (hc : ConfigOk s.cfg) {zw : Bool} (hp : s.phase = .waitStrobe)
    (hidle : (waitstb zw s).phase = .idle) : ReadEnd zw s (waitstb zw s) := by
  obtain ⟨-, -, -, ⟨hmax, -⟩, -⟩ := hc
  rcases waitstb_cases zw s with ⟨-, e⟩ | ⟨hzw, hcnt, e⟩ | ⟨-, -, e⟩ <;> rw [e] at hidle ⊢
  · cases hidle
  · exact .idleLine hp hzw (by omega)
  · simp [hp] at hidle

theorem measstb_readEnd {zw : Bool} (hp : s.phase = .measStrobe) (hidle : (measstb zw s).phase = .idle) :
    ReadEnd zw s (measstb zw s) := by
  rcases measstb_cases zw s with ⟨hzw, hcnt, e⟩ | ⟨-, -, e⟩ | ⟨hzw, hcnt, e⟩ | ⟨-, -, e⟩ <;> rw [e] at hidle ⊢
  · exact .stuckLow hp hzw hcnt
  · simp [hp] at hidle
  · exact .shortStrobe hp hzw hcnt
  · cases hidle

theorem starthi_readEnd {zw : Bool} (hp : s.phase = .startHi) (hidle : (starthi zw s).phase = .idle) :
    ReadEnd zw s (starthi zw s) := by
  rcases starthi_cases zw s with ⟨-, e⟩ | ⟨hzw, hcnt, e⟩ | ⟨-, -, e⟩ <;> rw [e] at hidle ⊢
  · cases hidle
  · exact .startHigh hp hzw hcnt
  · simp [hp] at hidle

theorem celllo_readEnd {zw : Bool} (hp : s.phase = .cellLo) (hidle : (celllo zw s).phase = .idle) :
    ReadEnd zw s (celllo zw s) := by
  rcases celllo_cases zw s with ⟨-, e⟩ | ⟨hzw, hcnt, e⟩ | ⟨-, -, e⟩ <;> rw [e] at hidle ⊢
  · cases hidle
  · exact .cellLow hp hzw hcnt
  · simp [hp] at hidle

/-- The bit that ends a read is the ninth of a word: of one with bad parity, or of a good second one. -/
theorem shift_readEnd (hs : SequencerInv s) (b : Bool) (hp : s.phase = .cellHi) (hidle : (shift b s).phase = .idle) :
    ReadEnd false s (shift b s) := by
  obtain ⟨-, hnbits, -⟩ := hs
  rcases shift_outcomes b s with ⟨-, e⟩ | ⟨hn, hpar, e⟩ | ⟨-, -, -, e⟩ | ⟨hn, hpar, hw, e⟩ <;> rw [e] at hidle ⊢
  · cases hidle
  · exact .badParity hp rfl (by omega) hpar
  · cases hidle
  · split_ifs with hrange
    · exact .finished hp rfl (by omega) hw hpar hrange
    · exact .outOfRange hp rfl (by omega) hw hpar hrange

/-- A falling edge never raises InvalidBitTiming: the high run was within its bound before it (R42(d)). -/
theorem cellhi_readEnd (hs : SequencerInv s) {zw : Bool} (hp : s.phase = .cellHi)
    (hidle : (cellhi zw s).phase = .idle) : ReadEnd zw s (cellhi zw s) := by
  rcases cellhi_cases zw s with ⟨hzw, hbound, e⟩ | ⟨-, -, e⟩ | ⟨-, hinvalid, -⟩ | ⟨rfl, -, e⟩
  · rw [e]
    exact .longHigh hp hzw hbound
  · simp [e, hp] at hidle
  · exact absurd hinvalid (classify_ne_invalid_of_sequencerInv hs hp)
  · rw [e] at hidle ⊢
    exact shift_readEnd hs _ hp hidle

/-- A tick of a read that leaves the machine idle, and is not reset, is one of the ends. -/
theorem tick_readEnd (hc : ConfigOk s.cfg) (hs : SequencerInv s) {i : Input} (hrst : i.rst = false)
    (hbusy : s.phase ≠ .idle) (hidle : (tick i s).phase = .idle) : ReadEnd i.zw s (tick i s) := by
  cases hp : s.phase with
  | idle => exact absurd hp hbusy
  | settle => exact absurd (tick_settle hrst hp ▸ hidle) (settle_phase_ne_idle hp)
  | waitStrobe => rw [tick_waitStrobe hrst hp] at hidle ⊢; exact waitstb_readEnd hc hp hidle
  | measStrobe => rw [tick_measStrobe hrst hp] at hidle ⊢; exact measstb_readEnd hp hidle
  | startHi => rw [tick_startHi hrst hp] at hidle ⊢; exact starthi_readEnd hp hidle
  | cellLo => rw [tick_cellLo hrst hp] at hidle ⊢; exact celllo_readEnd hp hidle
  | cellHi => rw [tick_cellHi hrst hp] at hidle ⊢; exact cellhi_readEnd hs hp hidle

/-! ### The cause and the record of each exception (R201 to R206) -/

section Records

variable {zw : Bool} {u : State}

/-- Timeout (R201): each of the four budgets, and whether the strobe had been measured. -/
theorem readEnd_timeout (hs : SequencerInv s) (hd : DataInv s) (hu : ReadEnd zw s u) (hst : u.status = .timeout) :
    s.phase = .waitStrobe ∧ zw = true ∧ s.cnt + 1 = s.cfg.strobeWaitMax ∧ u.t = 0 ∨
    s.phase = .measStrobe ∧ zw = false ∧ s.cnt + 1 = s.cfg.strobeMax ∧ u.t = 0 ∨
    s.phase = .startHi ∧ zw = true ∧ s.cnt + 1 = s.cfg.edgeWaitMax ∧
      1 ≤ u.t ∧ u.nword = 0 ∧ u.nbits = 0 ∧ u.sh = 0 ∨
    s.phase = .cellLo ∧ zw = false ∧ s.cnt + 1 = s.cfg.edgeWaitMax ∧
      1 ≤ u.t ∧ u.nword = s.nword ∧ u.nbits = s.nbits := by
  obtain ⟨-, -, hstrobe, -⟩ := hs
  obtain ⟨-, -, -, -, -, hbefore, hcells⟩ := hd
  cases hu with
  | idleLine hp hzw hcnt => exact .inl ⟨hp, hzw, hcnt, hbefore (.inr (.inl hp))⟩
  | stuckLow hp hzw hcnt => exact .inr (.inl ⟨hp, hzw, hcnt, hbefore (.inr (.inr hp))⟩)
  | startHigh hp hzw hcnt =>
    obtain ⟨hsh, hnbits, hnword⟩ := hcells (.inr (.inr (.inr hp)))
    exact .inr (.inr (.inl ⟨hp, hzw, hcnt, (hstrobe (.inl hp)).1, hnword, hnbits, hsh⟩))
  | cellLow hp hzw hcnt => exact .inr (.inr (.inr ⟨hp, hzw, hcnt, (hstrobe (.inr (.inl hp))).1, rfl, rfl⟩))
  | shortStrobe | longHigh | badParity | finished | outOfRange => cases hst

/-- InvalidStrobeLength (R202). -/
theorem readEnd_invalidStrobeLength (hd : DataInv s) (hu : ReadEnd zw s u) (hst : u.status = .invalidStrobeLength) :
    s.phase = .measStrobe ∧ zw = true ∧ s.cnt = 0 ∧ u.t = 0 := by
  obtain ⟨-, -, -, -, -, hbefore, -⟩ := hd
  cases hu with
  | shortStrobe hp hzw hcnt => exact ⟨hp, hzw, hcnt, hbefore (.inr (.inr hp))⟩
  | idleLine | stuckLow | startHigh | cellLow | longHigh | badParity | finished | outOfRange => cases hst

/-- InvalidBitTiming (R203). -/
theorem readEnd_invalidBitTiming (hu : ReadEnd zw s u) (hst : u.status = .invalidBitTiming) :
    s.phase = .cellHi ∧ zw = true ∧ (s.cnt + 1) * s.cfg.profile.upDen ≥ s.cfg.profile.upNum * s.t ∧
      u.nbits = s.nbits ∧ u.nword = s.nword := by
  cases hu with
  | longHigh hp hzw hbound => exact ⟨hp, hzw, hbound, rfl, rfl⟩
  | idleLine | stuckLow | startHigh | cellLow | shortStrobe | badParity | finished | outOfRange => cases hst

/-- ParityError (R205): nothing has been converted (R43). -/
theorem readEnd_parityError (hs : SequencerInv s) (hd : DataInv s) (hbusy : s.phase ≠ .idle) (hu : ReadEnd zw s u)
    (hst : u.status = .parityError) :
    s.phase = .cellHi ∧ zw = false ∧ s.nbits = 8 ∧ parityOk u.sh = false ∧
      u.nword = s.nword ∧ u.nbits = 0 ∧ u.raw = 0 ∧ u.tempNum = 0 := by
  obtain ⟨-, -, -, -, -, -, hnostatus, -⟩ := hs
  obtain ⟨hunmeasured, -⟩ := hd
  cases hu with
  | badParity hp hzw hnbits hparity =>
    exact ⟨hp, hzw, hnbits, hparity, rfl, rfl, hunmeasured (by simp [Measured, hnostatus hbusy])⟩
  | idleLine | stuckLow | startHigh | cellLow | shortStrobe | longHigh | finished | outOfRange => cases hst

/-- TemperatureOutOfRange (R206): the converted measurement stays on record. -/
theorem readEnd_tempOutOfRange (hu : ReadEnd zw s u) (hst : u.status = .tempOutOfRange) :
    s.phase = .cellHi ∧ zw = false ∧ s.nbits = 8 ∧ s.nword = 1 ∧ parityOk u.sh = true ∧
      u.raw = joinBytes s.byteHi (dataByte u.sh) ∧ u.tempNum = tempOf s.cfg.profile u.raw ∧
      ¬TempInRange s.cfg.profile u.tempNum := by
  cases hu with
  | outOfRange hp hzw hnbits hnword hparity hrange => exact ⟨hp, hzw, hnbits, hnword, hparity, rfl, rfl, hrange⟩
  | idleLine | stuckLow | startHigh | cellLow | shortStrobe | longHigh | badParity | finished => cases hst

end Records

/-- Settles O50: the tick is one of the ends of a read, and each exception is recorded by its own ends alone. -/
theorem exceptionsComeFromTheirCauses : Obligations.ExceptionsComeFromTheirCauses := by
  intro s t hs hd hbusy h hidle hrst
  obtain ⟨hc, rfl⟩ := step_next_eq h
  have hu : ReadEnd s.sample.zw s (tick s.sample s) := tick_readEnd hc hs hrst hbusy hidle
  exact ⟨readEnd_timeout (u := tick s.sample s) hs hd hu,
    readEnd_invalidStrobeLength (u := tick s.sample s) hd hu,
    readEnd_invalidBitTiming (u := tick s.sample s) hu,
    readEnd_parityError (u := tick s.sample s) hs hd hbusy hu,
    readEnd_tempOutOfRange (u := tick s.sample s) hu⟩

end Sys2Proof.Machine
end

section
/-! PROOFS. Reset and hazards (`spec/70_reset_and_hazards.md`): RESET (R230), the refusals of the MODEL rows (R245; log 8),
and the bound on the latency of a read (R243, R218), by a count of the ticks left that every tick of a read lowers. -/

namespace Sys2Proof.Machine

variable {s : State}

/-! ### RESET (R230, R41) -/

theorem vddEn_resetRegs (s : State) : (resetRegs s).vddEn = false := by
  show (s.cfg.powerCtrl && if s.cfg.powerCtrl then false else s.pwr) = false
  cases s.cfg.powerCtrl <;> rfl

/-- Settles O4: the row is `resetRegs`, and so is the tick at `rst = 1`, which in a state of R42 clears `PWR` too. -/
theorem resetClearsEveryRegister : Obligations.ResetClearsEveryRegister := by
  constructor
  · intro p st zw s
    exact ⟨resetRegs s, rfl, resetRegs_eq s, rfl, rfl, rfl, vddEn_resetRegs s⟩
  · intro s hc hs hrst
    rw [step_eq hc, tick_rst hrst, resetRegs_of_sequencerInv hs]
    rfl

/-! ### Where a MODEL row is refused (R245, U4, U6, U7; log 8) -/

theorem selectModel_without_constants {m : Model} (hp : profileOf s.profiles m = none) :
    selectModel m s = .refused .modelWithoutConstants := by
  rw [selectModel, hp]

theorem selectModel_invalid {m : Model} {p : Profile} (hp : profileOf s.profiles m = some p)
    (hc : ¬ConfigOk { s.cfg with model := m, profile := p }) : selectModel m s = .refused .invalidConfiguration := by
  unfold selectModel
  rw [hp]
  exact if_pos hc

theorem selectModel_during_read {m : Model} {p : Profile} (hp : profileOf s.profiles m = some p)
    (hc : ConfigOk { s.cfg with model := m, profile := p }) (hbusy : s.phase ≠ .idle)
    (hchange : { s.cfg with model := m, profile := p } ≠ s.cfg) :
    selectModel m s = .refused .configChangedDuringRead := by
  unfold selectModel
  rw [hp]
  dsimp only
  rw [if_neg (not_not_intro hc), if_neg (not_or_intro hbusy hchange)]

/-- Each MODEL row is the selection of its model (R89). -/
theorem exec_modelRow {m : Model} {i : Instr} (s : State)
    (h : (m, i) ∈ [(Model.m306, Instr.model306), (.m206, .model206), (.m316, .model316), (.m506, .model506),
      (.m516, .model516)]) : exec i s = selectModel m s := by
  simp only [List.mem_cons, Prod.mk.injEq, List.not_mem_nil, or_false] at h
  rcases h with ⟨rfl, rfl⟩ | ⟨rfl, rfl⟩ | ⟨rfl, rfl⟩ | ⟨rfl, rfl⟩ | ⟨rfl, rfl⟩ <;> rfl

/-- Settles O30: the row is the selection of its model, which is refused for one reason after the other. -/
theorem modelRowsRefuse : Obligations.ModelRowsRefuse := by
  intro s m i hrow
  rw [exec_modelRow s hrow]
  exact ⟨selectModel_without_constants, fun p hp => ⟨selectModel_invalid hp, selectModel_during_read hp⟩⟩

/-! ### How long a read can still take (R243) -/

/-- `HLIM_MAX` is at least 1: the longest strobe is not empty (R9(a), (d)). -/
theorem hlimMax_pos {c : Cfg} (hc : ConfigOk c) : 0 < hlimMax c := by
  obtain ⟨⟨-, -, hup, hden, -⟩, -, -, ⟨-, hstrobe, -⟩, -⟩ := hc
  have hpos : 0 < c.profile.upNum * (c.strobeMax - 1) := Nat.mul_pos hup (by omega)
  exact lt_hlimMax hden le_rfl (by rwa [Nat.zero_mul])

/-- The most ticks a data cell takes. -/
def cellTicks (c : Cfg) : Nat := c.edgeWaitMax + hlimMax c

/-- The most ticks a stay in the phase takes (R42(d), (e)). -/
def Phase.budget (c : Cfg) : Phase → Nat
  | .idle => 0
  | .settle => c.settleTicks
  | .waitStrobe => c.strobeWaitMax
  | .measStrobe => c.strobeMax
  | .startHi | .cellLo => c.edgeWaitMax
  | .cellHi => hlimMax c

/-- The most ticks a read takes after it has left the phase, if `cells` data cells follow the present one or, before
the data cells, the first one. -/
def Phase.later (c : Cfg) (cells : Nat) : Phase → Nat
  | .idle => 0
  | .settle => c.strobeWaitMax + c.strobeMax + c.edgeWaitMax + (cells + 1) * cellTicks c
  | .waitStrobe => c.strobeMax + c.edgeWaitMax + (cells + 1) * cellTicks c
  | .measStrobe => c.edgeWaitMax + (cells + 1) * cellTicks c
  | .startHi => (cells + 1) * cellTicks c
  | .cellLo => hlimMax c + cells * cellTicks c
  | .cellHi => cells * cellTicks c

/-- The data cells that follow the present one (R28, R29). -/
def State.cellsAfter (s : State) : Nat := cellsPerFrame - 1 - (bitsPerWord * s.nword.val + s.nbits)

/-- The most ticks the read can still take. -/
def State.ticksLeft (s : State) : Nat :=
  s.phase.budget s.cfg - s.cnt + s.phase.later s.cfg s.cellsAfter

/-- What the bound rests on while a read is under way: R42 without the supply and the status, so that it holds after
READ in every idle state. -/
abbrev ReadUnderWay (s : State) : Prop :=
  s.phase ≠ .idle ∧ (s.phase = .settle → s.cfg.powerCtrl = true) ∧ s.nbits ≤ 8 ∧ s.t ≤ s.cfg.strobeMax - 1 ∧
  CountWithinBudget s ∧ (s.phase = .cellHi → s.cnt < hlimMax s.cfg)

theorem cnt_lt_budget (hc : ConfigOk s.cfg) (h : ReadUnderWay s) : s.cnt < s.phase.budget s.cfg := by
  obtain ⟨-, -, -, ⟨hwait, hstrobe, hedge, hsettle⟩, -⟩ := hc
  obtain ⟨hbusy, hpower, -, -, ⟨hcntw, hcntm, hcnte, hcnts⟩, hhigh⟩ := h
  cases hp : s.phase <;> simp only [Phase.budget]
  case idle => exact absurd hp hbusy
  case settle => exact Nat.lt_of_le_pred (hsettle (hpower hp)) (hcnts hp)
  case waitStrobe => exact Nat.lt_of_le_pred hwait (hcntw hp)
  case measStrobe => exact Nat.lt_of_le_pred (by omega) (hcntm hp)
  case startHi => exact Nat.lt_of_le_pred hedge (hcnte (.inl hp))
  case cellLo => exact Nat.lt_of_le_pred hedge (hcnte (.inr hp))
  case cellHi => exact hhigh hp

/-- A phase after SETTLE begins its count at 0, within every budget. -/
theorem enter_readUnderWay {u : State} {p : Phase} (hc : ConfigOk u.cfg) (hp : p ≠ .idle ∧ p ≠ .settle)
    (hnbits : u.nbits ≤ 8) (ht : u.t ≤ u.cfg.strobeMax - 1) : ReadUnderWay (u.enter p) :=
  ⟨hp.1, fun h => absurd h hp.2, hnbits, ht, by simp [CountWithinBudget], fun _ => hlimMax_pos hc⟩

/-- A phase change lowers the count of ticks if what follows the old phase covers the new one and what follows that. -/
theorem ticksLeft_enter_lt {u : State} {p : Phase} (hcnt : s.cnt < s.phase.budget s.cfg)
    (hlater : p.budget u.cfg + p.later u.cfg u.cellsAfter ≤ s.phase.later s.cfg s.cellsAfter) :
    (u.enter p).ticksLeft < s.ticksLeft := by
  show p.budget u.cfg - 0 + p.later u.cfg u.cellsAfter < s.phase.budget s.cfg - s.cnt + _
  omega

/-- The bit of a cell brings the read one cell nearer its end. -/
theorem ticksLeft_nextCell_lt {u : State} (hp : s.phase = .cellHi) (hcnt : s.cnt < s.phase.budget s.cfg)
    (hcfg : u.cfg = s.cfg) (hcells : u.cellsAfter + 1 = s.cellsAfter) : (u.enter .cellLo).ticksLeft < s.ticksLeft := by
  refine ticksLeft_enter_lt hcnt (le_of_eq ?_)
  rw [hcfg, hp, ← hcells]
  simp only [Phase.budget, Phase.later, Nat.succ_mul, cellTicks]
  omega

/-- A tick of a read ends it, or leaves it under way with fewer ticks to go. -/
theorem readTick_progress {zw : Bool} {u : State} (hc : ConfigOk s.cfg) (h : ReadUnderWay s) (hu : ReadTick zw s u) :
    u.phase = .idle ∨ (ReadUnderWay u ∧ u.ticksLeft < s.ticksLeft) := by
  have hcnt : s.cnt < s.phase.budget s.cfg := cnt_lt_budget hc h
  obtain ⟨hbusy, hpower, hnbits, ht, hbudget, hhigh⟩ := h
  have ⟨⟨_, _, _, hden, _⟩, _⟩ := hc
  cases hu with
  | void hp hoff => simp [hpower hp] at hoff
  | wait hcount hbound =>
    refine .inr ⟨⟨hbusy, hpower, hnbits, ht, hcount hbudget, fun hp => lt_hlimMax hden ht (hbound hp)⟩, ?_⟩
    exact Nat.add_lt_add_right (Nat.sub_succ_lt_self _ _ hcnt) _
  | enter hnext =>
    refine .inr ⟨enter_readUnderWay hc ?_ hnbits ht, ticksLeft_enter_lt hcnt ?_⟩
    · rcases hnext with ⟨-, rfl⟩ | ⟨-, rfl⟩ | ⟨-, rfl⟩ | ⟨-, rfl⟩ <;> decide
    · rcases hnext with ⟨hp, rfl⟩ | ⟨hp, rfl⟩ | ⟨hp, rfl⟩ | ⟨hp, rfl⟩ <;>
        simp only [hp, Phase.budget, Phase.later, Nat.succ_mul, cellTicks] <;> omega
  | strobe hp =>
    obtain ⟨-, hstrobe, -⟩ := hbudget
    refine .inr ⟨enter_readUnderWay hc (by decide) hnbits (hstrobe hp), ticksLeft_enter_lt hcnt (le_of_eq ?_)⟩
    rw [hp]
    rfl
  | timingFault | parityFault | measured => exact .inl rfl
  | bit hp hn =>
    refine .inr ⟨enter_readUnderWay hc (by decide) hn ht, ticksLeft_nextCell_lt hp hcnt rfl ?_⟩
    simp only [State.cellsAfter, cellsPerFrame, wordsPerFrame, bitsPerWord]
    omega
  | firstWord hp hn _ hw =>
    refine .inr ⟨enter_readUnderWay hc (by decide) (Nat.zero_le 8) ht, ticksLeft_nextCell_lt hp hcnt rfl ?_⟩
    simp only [State.cellsAfter, cellsPerFrame, wordsPerFrame, bitsPerWord, hw]
    omega

/-! ### A read ends (R218, R243) -/

/-- The next input does not reset if no input of the trace does: beyond its end the tick is idle (R95). -/
theorem sample_rst (h : ∀ i ∈ s.inputs, i.rst = false) : s.sample.rst = false := by
  unfold State.sample
  cases hins : s.inputs with
  | nil => rfl
  | cons i rest => exact h i (by simp [hins])

/-- A read under way that is not reset ends, with a status, after one tick at least and the ticks left to it at most. -/
theorem run_readUnderWay_ends {n : Nat} (hc : ConfigOk s.cfg) (h : ReadUnderWay s) (hn : s.ticksLeft ≤ n)
    (hrst : ∀ i ∈ s.inputs, i.rst = false) :
    ∃ k u, 1 ≤ k ∧ k ≤ n ∧ Host.Core.run core k s = .next u ∧ u.phase = .idle ∧ u.status ≠ .none := by
  induction n generalizing s with
  | zero =>
    have hcnt : s.cnt < s.phase.budget s.cfg := cnt_lt_budget hc h
    have hpos : 0 < s.ticksLeft := Nat.add_pos_left (Nat.sub_pos_of_lt hcnt) _
    omega
  | succ n ih =>
    have ⟨hbusy, _⟩ := h
    have htick : ReadTick s.sample.zw s (tick s.sample s) := by
      rcases tick_outcomes hc s.sample with ⟨hr, -⟩ | ⟨-, hp, -⟩ | ⟨-, hp, -⟩ | ⟨-, -, hu⟩
      · simp [sample_rst hrst] at hr
      · exact absurd hp hbusy
      · exact absurd hp hbusy
      · exact hu
    rcases readTick_progress hc h htick with hidle | ⟨hnext, hless⟩
    · exact ⟨1, _, le_rfl, by omega, run_next (step_eq hc), hidle,
        readTick_ends_with_status (u := tick s.sample s) hbusy htick hidle⟩
    · obtain ⟨hcfg, -⟩ := readTick_keeps_construction htick
      obtain ⟨k, u, -, hk, hrun, hend⟩ := ih (s := { tick s.sample s with inputs := s.inputs.tail })
        (hcfg.symm ▸ hc) hnext (Nat.le_of_lt_succ (lt_of_lt_of_le hless hn))
        fun i hi => hrst i (List.mem_of_mem_tail hi)
      exact ⟨k + 1, u, by omega, by omega, (run_next (step_eq hc)).trans hrun, hend⟩

theorem read_readUnderWay (s : State) : ReadUnderWay (read s) := by
  rw [read_eq]
  cases hpower : s.cfg.powerCtrl <;> simp [ReadUnderWay, CountWithinBudget, hpower]

/-- The bound of R243 is the count of ticks with which a read begins. -/
theorem ticksLeft_read (s : State) : (read s).ticksLeft = latencyBound s.cfg := by
  rw [read_eq]
  cases hpower : s.cfg.powerCtrl <;>
    simp [State.ticksLeft, State.cellsAfter, Phase.budget, Phase.later, latencyBound, cellTicks, cellsPerFrame,
      wordsPerFrame, bitsPerWord, hpower] <;> omega

/-- Settles O43: READ begins a read with the bound of R243 as the count of ticks left. -/
theorem readEndsWithinBound : Obligations.ReadEndsWithinBound := by
  intro s hc hidle hstart hrst
  have hcfg : (read s).cfg = s.cfg := by rw [read_eq]
  have hread : step s = .next { read s with inputs := s.inputs.tail } := by
    rw [step_eq hc, tick_idle (sample_rst hrst) hidle, if_pos hstart]
  obtain ⟨k, u, hpos, hk, hrun, hend⟩ := run_readUnderWay_ends (s := { read s with inputs := s.inputs.tail })
    (hcfg.symm ▸ hc) (read_readUnderWay s) (ticksLeft_read s).le fun i hi => hrst i (List.mem_of_mem_tail hi)
  exact ⟨k, u, hpos, hk, (run_next hread).trans hrun, hend⟩

end Sys2Proof.Machine
end
